-- ==== Sys2Proof/Word.lean ====
section
/-! DEFINITION. The word types of the NB-740 (00_scope.md section 5). -/

namespace Sys2Proof

/-- A byte of a frame or of the configuration image. -/
abbrev Byte := BitVec 8

/-- A 16-bit count, distance, time or field. -/
abbrev Word := BitVec 16

/-- A position: a tach count, 0..65535, which wraps (R1, R3). -/
abbrev Pos := BitVec 16

/-- A return code: twelve hexadecimal digits, D0 in the top four bits (section 3.1). -/
abbrev Code := BitVec 48

/-- An account reference: the nine digits D2 to D10 (section 3.1). -/
abbrev Account := BitVec 36

/-- A station number (R7). -/
abbrev Station := BitVec 4

end Sys2Proof
end

