-- ==== Sys2Proof/Config.lean ====
section
/-! DEFINITION. What a station's configuration holds once loaded (R8, R94, R95, R174), and the fixed sizes of the part.
The spec leaves no value open that a command computes (log 24); the one free value is a level of an output (log 27). -/

namespace Sys2Proof

/-- The kinds of pocket rule (section 6.1). -/
inductive PocketKind where
  | off
  | classRange
  | hold
  | noRead
  | suspect
  deriving DecidableEq, Repr

/-- One pocket's rule (section 6.1, R94). -/
structure PocketRule where
  kind : PocketKind
  excludeHeld : Bool
  classLow : Byte
  classHigh : Byte
  gate : Word
  tallyLimit : Word
  deriving DecidableEq, Repr

/-- Four like things, one for each pocket 0..3 (section 7.1). -/
structure PerPocket (α : Type) where
  p0 : α
  p1 : α
  p2 : α
  p3 : α
  deriving DecidableEq, Repr

/-- The configuration of a station, after bounding (section 9.3, R172 to R174). -/
structure StationConfig where
  /-- station position (R7) -/
  position : BitVec 14
  /-- the TAIL role (R78) -/
  tail : Bool
  /-- the SCANNER role (R16) -/
  scanner : Bool
  pocketCount : Nat
  tol : Word
  lenMin : Word
  lenMax : Word
  jamLen : Word
  /-- DECIDE (R100) -/
  decideDist : Word
  retire : Word
  scanTail : Word
  /-- sample divider k: the sample clock is REFCLK / 2^k (R16) -/
  divider : Nat
  /-- NF (R18) -/
  noiseFilter : Nat
  /-- QUIET (R24) -/
  quiet : Nat
  /-- VOTE_MIN (R49) -/
  voteMin : Nat
  /-- the configured polarity bit (R17) -/
  polarity : Bool
  /-- pull-in time, µs (R125) -/
  pullIn : Word
  /-- hold-on time, µs (R127) -/
  holdOn : Word
  /-- hold-off time, µs (R127) -/
  holdOff : Word
  /-- gate latency L, µs (R12) -/
  latency : Word
  advMax : Word
  relMargin : Word
  confExt : Word
  rules : PerPocket PocketRule
  alertMask : Word
  readRateThreshold : Nat
  holdList : List Account
  /-- the configuration CRC (R170) -/
  crc : Word
  deriving DecidableEq, Repr

/-- A rule of kind OFF (R94). -/
def PocketRule.unused : PocketRule :=
  { kind := .off, excludeHeld := false, classLow := 0, classHigh := 0, gate := 0, tallyLimit := 0 }

/-- What a station without a configuration reads in its place: no roles, no rules, no hold list (R166).
Log 23: only the kind OFF, the absent roles and the empty mask and list are ever read. -/
def StationConfig.absent : StationConfig :=
  { position := 0, tail := false, scanner := false, pocketCount := 0, tol := 0, lenMin := 0, lenMax := 0, jamLen := 0,
    decideDist := 0, retire := 0, scanTail := 0, divider := 0, noiseFilter := 0, quiet := 0, voteMin := 0, polarity := false,
    pullIn := 0, holdOn := 0, holdOff := 0, latency := 0, advMax := 0, relMargin := 0, confExt := 0,
    rules := ⟨.unused, .unused, .unused, .unused⟩, alertMask := 0, readRateThreshold := 0, holdList := [], crc := 0 }

/-- Free value (log 27): the level of CMDO, by the count and the half cycle of CMCLK, wherever the spec states none. -/
opaque Config.freeCmdo : Pos → Nat → Bool

/-- The track table never holds more than 48 entries (R54). -/
def maxEntries : Nat := 48

/-- The transmit queue never holds more than 8 frames (R152). -/
def maxQueue : Nat := 8

/-- An operation list never holds more than 3 operations (R121). -/
def maxOps : Nat := 3

/-- The run buffer holds at most 64 widths (R28). -/
def maxRun : Nat := 64

/-- The candidate list holds at most 4 candidates (R45). -/
def maxCandidates : Nat := 4

/-- The read-rate window holds up to 32 outcomes (R90). -/
def maxWindow : Nat := 32

end Sys2Proof
end

