-- ==== Sys2Proof/Syntax.lean ====
section
/-! DEFINITION. The commands of the NB-740: one constructor for each row of spec/opcode_table.json.
A row names an event; its operands are what that event brings from outside (a level, a pocket, the fields of a frame,
a byte of the configuration image). -/

namespace Sys2Proof

/-- A letter ID: origin station and sequence number (00_scope.md section 5). -/
structure LetterId where
  origin : Station
  seq : BitVec 12
  deriving DecidableEq, Repr

/-- What a frame's header says of its sender (section 8.6, bytes 0, 2 and 3). -/
structure Header where
  station : Station
  position : BitVec 14
  tail : Bool
  scanner : Bool
  deriving DecidableEq, Repr

/-- The levels of the strap pins when they are latched (R165): SN0..SN3, LR1 LR0, VPOL. -/
structure Straps where
  station : Station
  rate : BitVec 2
  vpol : Bool
  deriving DecidableEq, Repr

/-- The two signals whose fall puts the station into RESET (R163). -/
inductive ResetSignal where
  | powerOk
  | reset
  deriving DecidableEq, Repr

/-- The commands, in the table's order. Docstrings name the row and what the operands are. -/
inductive Instr where
  /-- TACH_EDGE: a rising edge of TACH. -/
  | tachEdge
  /-- TACH_STALL: the elapsed-time counter reaches 65535. -/
  | tachStall
  /-- NOISE_FILTER_ACCEPT: a sample of VIDEO (high or low) that changes the accepted level. -/
  | noiseFilterAccept (high : Bool)
  /-- QUIET_SEEN: a sample of VIDEO that completes a quiet zone in SEEKING_QUIET. -/
  | quietSeen (high : Bool)
  /-- RUN_END_BY_QUIET: a sample of VIDEO that ends a run by quiet. -/
  | runEndByQuiet (high : Bool)
  /-- SWEEP_EDGE: a rising edge of SWEEP. -/
  | sweepEdge
  /-- PCELL_LEADING_EDGE: PCELL goes from clear to blocked. -/
  | pcellLeadingEdge
  /-- PCELL_TRAILING_EDGE: PCELL goes from blocked to clear. -/
  | pcellTrailingEdge
  /-- JAM_POINT: the blockage's jam point is reached. -/
  | jamPoint
  /-- EXPIRY_POINT: the expiry point of an EXPECTED entry is reached. -/
  | expiryPoint
  /-- RETIREMENT_POINT: the retirement point of a PASSED entry is reached. -/
  | retirementPoint
  /-- SCAN_CLOSE_POINT: the open window's close point is reached. -/
  | scanClosePoint
  /-- DECISION_POINT: an entry's decision point is reached. -/
  | decisionPoint
  /-- FIRE_POINT: the fire point of an ARMED operation of the pocket is reached. -/
  | firePoint (pocket : Fin 4)
  /-- PULL_IN_EXPIRY: the pocket's pull-in timer reaches 0. -/
  | pullInExpiry (pocket : Fin 4)
  /-- CHOP_PART_EXPIRY: the part of the pocket's hold chop ends. -/
  | chopPartExpiry (pocket : Fin 4)
  /-- RELEASE_POINT: the release point of an active operation of the pocket is reached. -/
  | releasePoint (pocket : Fin 4)
  /-- CONFIRM_CLOSE: the confirm close of an unconfirmed operation of the pocket is reached. -/
  | confirmClose (pocket : Fin 4)
  /-- PENTRY_EDGE: a falling edge of PENTRYk. -/
  | pentryEdge (pocket : Fin 4)
  /-- PFULL_CHANGE: PFULLk changes to the level given. -/
  | pfullChange (pocket : Fin 4) (active : Bool)
  /-- PSWAP_ACTIVE: PSWAPk becomes active. -/
  | pswapActive (pocket : Fin 4)
  /-- PSWAP_INACTIVE: PSWAPk becomes inactive. -/
  | pswapInactive (pocket : Fin 4)
  /-- BUS_FREE: TL has stayed high for 12 cell times. -/
  | busFree
  /-- START_OF_FRAME: a falling edge of TL driven by another station, after so many whole cell times of high. -/
  | startOfFrame (highCells : Nat)
  /-- ARBITRATION_LOST: this sender reads 0 after sending 1 in byte 0. -/
  | arbitrationLost
  /-- BIT_ERROR: this sender reads a level it did not send, otherwise than in a lost arbitration. -/
  | bitError
  /-- ATTEMPT_END: this sender reads the acknowledge cell; acked when it reads low. -/
  | attemptEnd (acked : Bool)
  /-- SIGHT_STALE_POINT: the stale point of a queued SIGHT is reached. -/
  | sightStalePoint
  /-- BROKEN_FRAME: the cells read after the start cell, up to the one at which the receiver stops. -/
  | brokenFrame (cells : List Bool)
  /-- JAM_RECEIVED: a well-formed JAM, with its reason byte. -/
  | jamReceived (h : Header) (reason : Byte)
  /-- CLEAR_RECEIVED: a well-formed CLEAR. -/
  | clearReceived (h : Header)
  /-- CLAIM_RECEIVED: a well-formed CLAIM, with letter ID and pocket byte. -/
  | claimReceived (h : Header) (id : LetterId) (pocket : Byte)
  /-- RELEASE_RECEIVED: a well-formed RELEASE, with letter ID, pocket and reason bytes. -/
  | releaseReceived (h : Header) (id : LetterId) (pocket : Byte) (reason : Byte)
  /-- DIVERTED_RECEIVED: a well-formed DIVERTED, with letter ID, pocket byte and tally. -/
  | divertedReceived (h : Header) (id : LetterId) (pocket : Byte) (tally : Word)
  /-- SIGHT_RECEIVED: a well-formed SIGHT, with letter ID, age and length. -/
  | sightReceived (h : Header) (id : LetterId) (age : Word) (length : Word)
  /-- READ_RECEIVED: a well-formed READ; the code is present in a body of 11 bytes and absent in one of 5. -/
  | readReceived (h : Header) (id : LetterId) (outcome : Byte) (quality : Byte) (sweeps : Byte) (code : Option Code)
  /-- LOST_RECEIVED: a well-formed LOST, with letter ID. -/
  | lostReceived (h : Header) (id : LetterId)
  /-- POLL_RECEIVED: a well-formed POLL, with its target byte. -/
  | pollReceived (h : Header) (target : Byte)
  /-- JOIN_RECEIVED: a well-formed JOIN, with pocket count byte and configuration CRC. -/
  | joinReceived (h : Header) (pockets : Byte) (crc : Word)
  /-- IGNORED_FRAME_RECEIVED: a well-formed frame of a kind without owner, or of a body length its kind does not allow. -/
  | ignoredFrameReceived (h : Header) (kind : BitVec 4) (body : List Byte)
  /-- STOP_PRESS: a falling edge of STOP. -/
  | stopPress
  /-- STOP_RELEASE: a rising edge of STOP. -/
  | stopRelease
  /-- RESUME_PRESS: a falling edge of RESUME. -/
  | resumePress
  /-- RESET_ENTRY: a fall of POWER_OK or of RESET. -/
  | resetEntry (signal : ResetSignal)
  /-- POWER_OK_RISE_IN_RESET: a rise of POWER_OK while RESET is low, with the strap levels. -/
  | powerOkRiseInReset (straps : Straps)
  /-- RESET_RELEASE: POWER_OK and RESET are both high, with the strap and RETAIN levels at that moment. -/
  | resetRelease (straps : Straps) (retain : Bool)
  /-- HEADER_BYTE_CHECK: the next header byte of the configuration image is in. -/
  | headerByteCheck (byte : Byte)
  /-- CONFIG_READ_COMPLETE: the last image byte is in, with all bytes after the header. -/
  | configReadComplete (rest : List Byte)
  /-- VIDEO_SAMPLE: a sample of VIDEO that changes no accepted level and completes no quiet zone. -/
  | videoSample (high : Bool)
  deriving DecidableEq, Repr

end Sys2Proof
end

