-- ==== Sys2Proof/Machine/State.lean ====
section
/-! DEFINITION. The state of the station: every register, list, counter, flag and pin the spec gives its eight blocks
(00_scope.md section 3), and the queue of waiting commands. -/

namespace Sys2Proof.Machine

/-- Run states (section 9.1, R178). -/
inductive RunState where
  | reset
  | loading
  | halted
  | joining
  | running
  | jammed
  deriving DecidableEq, Repr

/-- The levels of the input pins that rules read as levels (R60, R115, R163, R180 to R182). -/
structure Pins where
  powerOk : Bool
  resetHigh : Bool
  pcellBlocked : Bool
  stopHigh : Bool
  pfull : PerPocket Bool
  pswap : PerPocket Bool
  deriving DecidableEq, Repr

/-- The ring of the last eight tach intervals, oldest first (R10). -/
structure TachRing where
  s0 : Word
  s1 : Word
  s2 : Word
  s3 : Word
  s4 : Word
  s5 : Word
  s6 : Word
  s7 : Word
  deriving DecidableEq, Repr

/-- The Tach Unit (R1, R9, R10). -/
structure TachUnit where
  count : Pos
  ring : TachRing
  p8 : Word
  elapsed : Word
  deriving DecidableEq, Repr

/-- A level of the video after polarity (R17). -/
inductive Level where
  | bar
  | space
  deriving DecidableEq, Repr

/-- Capture states (section 2.3). -/
inductive Capture where
  | closed
  | seekingQuiet
  | inRun
  deriving DecidableEq, Repr

/-- The Scan Front End: filter (R18), element width (R19), capture (section 2.3). -/
structure FrontEnd where
  accepted : Level
  /-- consecutive samples that disagree with the accepted level -/
  pending : Nat
  /-- samples of the current element, the pending ones left out -/
  width : Word
  capture : Capture
  quietSeen : Bool
  runBuffer : List Word
  /-- samples taken since the event that entered the quiet search (R24) -/
  searchSamples : Word
  deriving DecidableEq, Repr

/-- The direction of a decode (R34). -/
inductive Direction where
  | forward
  | reverse
  deriving DecidableEq, Repr

/-- A candidate of the vote (section 3.4). -/
structure Candidate where
  code : Code
  count : Byte
  direction : Direction
  deriving DecidableEq, Repr

/-- The scan record of the letter whose window is open (section 3.4). -/
structure ScanRecord where
  id : LetterId
  closePoint : Option Pos
  sweeps : Byte
  runs : Byte
  fullRuns : Byte
  decodes : Byte
  candidates : List Candidate
  deriving DecidableEq, Repr

/-- Reasons of a failed read (R50). -/
inductive FailReason where
  | noRun
  | noDecode
  | tooFew
  | tie
  deriving DecidableEq, Repr

/-- The verdict of a read record (section 3.5). -/
inductive Verdict where
  | good (code : Code) (votes : Byte) (runnerUp : Byte) (quality : BitVec 4) (direction : Direction)
  | failed (reason : FailReason)
  deriving DecidableEq, Repr

/-- A read record (section 3.5). -/
structure ReadRecord where
  id : LetterId
  verdict : Verdict
  sweeps : Byte
  deriving DecidableEq, Repr

/-- Outcomes in the read-rate window (R90). -/
inductive ReadOutcome where
  | good
  | failed
  deriving DecidableEq, Repr

/-- Identity states (section 5.1). -/
inductive IdentityState where
  | unread
  | failed
  | settled
  | conflict
  deriving DecidableEq, Repr

/-- The identity of an entry (section 5.1). -/
structure Identity where
  state : IdentityState
  code : Option Code
  agree : BitVec 4
  fail : BitVec 4
  best : BitVec 4
  firstReader : Option Station
  deriving DecidableEq, Repr

/-- The claim of an entry (section 6.2). A peer's pocket is recorded as it stands in the frame (R106). -/
inductive Claim where
  | none
  | own (pocket : Fin 4)
  | peer (station : Station) (pocket : Byte)
  | releasedSelf
  deriving DecidableEq, Repr

inductive Origin where
  | upstream
  | own
  deriving DecidableEq, Repr

inductive Presence where
  | expected
  | present
  | passed
  deriving DecidableEq, Repr

/-- A track table entry with its points (section 4.1, R100). -/
structure Entry where
  id : LetterId
  origin : Origin
  presence : Presence
  expectedAt : Option Pos
  arrival : Option Pos
  trailing : Option Pos
  length : Option Word
  double : Bool
  arrivedWhileClaimed : Bool
  divertedHeard : Bool
  lostHeard : Bool
  identity : Identity
  claim : Claim
  decided : Bool
  /-- the expiry point, E + TOL + 1 while EXPECTED -/
  expiry : Option Pos
  /-- the retirement point, T + RETIRE while PASSED -/
  retirement : Option Pos
  /-- the Sort Unit's decision point, A + DECIDE until reached or removed -/
  decisionPoint : Option Pos
  deriving DecidableEq, Repr

/-- The blockage record (section 4.3). -/
inductive Blockage where
  | none
  | blocked (id : LetterId) (arrival : Pos) (jamPoint : Pos)
  | untracked (kept : Option LetterId) (arrival : Pos) (jamPoint : Pos)
  deriving DecidableEq, Repr

/-- Pocket states (R114). -/
inductive PocketState where
  | off
  | out
  | fault
  | full
  | ready
  deriving DecidableEq, Repr

/-- States of a gate operation (section 7.2). -/
inductive OpState where
  | armed
  | pullIn
  | hold
  | trailing
  deriving DecidableEq, Repr

/-- A gate operation (section 7.2). -/
structure GateOp where
  id : LetterId
  fire : Pos
  release : Option Pos
  confirmClose : Option Pos
  state : OpState
  confirmed : Bool
  lateClaim : Bool
  deriving DecidableEq, Repr

/-- The drive of a gate with its timers (R124 to R127); times left in µs. -/
inductive Drive where
  | off
  | pulling (timer : Word)
  | holding (onPart : Bool) (left : Word)
  deriving DecidableEq, Repr

/-- A pocket (section 7.1). -/
structure Pocket where
  state : PocketState
  fault : Bool
  missCount : BitVec 2
  tally : Word
  ops : List GateOp
  drive : Drive
  deriving DecidableEq, Repr

/-- Reasons of a JAM frame (section 8.6). -/
inductive JamReason where
  | ownPhotocell
  | stop
  | clearRefused
  deriving DecidableEq, Repr

/-- Reasons of a RELEASE frame (section 8.6). -/
inductive ReleaseReason where
  | miss
  | swap
  | rejudged
  deriving DecidableEq, Repr

/-- A frame this station sends, with the content fixed when it is queued (R147: a SIGHT holds its arrival position, and a
STATUS forms its body at each start of frame). -/
inductive Frame where
  | jam (reason : JamReason)
  | clear
  | claim (id : LetterId) (pocket : Fin 4)
  | release (id : LetterId) (pocket : Fin 4) (reason : ReleaseReason)
  | diverted (id : LetterId) (pocket : Fin 4) (tally : Word)
  | sight (id : LetterId) (arrival : Pos) (length : Word)
  | read (record : ReadRecord)
  | lost (id : LetterId)
  | runout (id : LetterId) (state : IdentityState) (code : Option Code)
  | status
  | join (pockets : Nat) (crc : Word)
  deriving DecidableEq, Repr

/-- A frame in the transmit queue (R152). -/
structure QueuedFrame where
  frame : Frame
  /-- attempts that counted against it, 0..2 (section 8.3) -/
  attempts : Nat
  /-- it is the frame in flight (R147) -/
  inFlight : Bool
  /-- its stale point was reached while it was in flight (R156) -/
  staleReached : Bool
  /-- it is a STATUS that was replaced while in flight (R155) -/
  replaced : Bool
  /-- the stale point of a SIGHT (R156) -/
  stalePoint : Option Pos
  deriving DecidableEq, Repr

/-- This station's part in the frame under way (R160). -/
inductive FrameRole where
  | sender
  | receiver
  deriving DecidableEq, Repr

/-- The Line Interface's view of the line (R139, R141). -/
inductive LineState where
  | inactive
  | waitFree
  | free
  | inFrame (role : FrameRole)
  deriving DecidableEq, Repr

/-- The Line Interface (chapter 8). -/
structure Line where
  state : LineState
  sofTach : Pos
  /-- it drives the acknowledge cell of the frame it has just received (R150) -/
  ackDriven : Bool
  /-- header, body and CRC bytes of the attempt under way (R144, R147) -/
  sending : List Byte
  queue : List QueuedFrame
  /-- the line discard count (R152) -/
  discards : Byte
  deriving DecidableEq, Repr

/-- The conditions, delta bits and reported marks, each a 16-bit map with bit i - 1 for rank i (R184, R187). -/
structure Conditions where
  active : BitVec 16
  deltas : BitVec 16
  markedLatched : BitVec 16
  markedDeltas : BitVec 16
  deriving DecidableEq, Repr

/-- The eight counters (R188). -/
structure Counters where
  sightings : Word
  goodReads : Word
  failedReads : Word
  claims : Word
  diverted : Word
  released : Word
  lost : Word
  runouts : Word
  deriving DecidableEq, Repr

/-- The configuration port and the header bytes read in (R168, R169). -/
structure Loader where
  /-- CMSEL is low -/
  selected : Bool
  /-- bytes sent on CMDO in this read, most significant bit first -/
  sent : List Byte
  /-- header bytes read in that passed their tests -/
  header : List Byte
  deriving DecidableEq, Repr

/-- The state of the station. -/
structure State where
  pins : Pins
  runState : RunState
  straps : Straps
  config : Option StationConfig
  loader : Loader
  /-- POWER_OK has been low since the station last left RESET (R164) -/
  powerLost : Bool
  /-- the present RESET was entered from HALTED (R164) -/
  haltedAtEntry : Bool
  /-- the STOP released flag (R180) -/
  stopReleased : Bool
  conditions : Conditions
  counters : Counters
  tach : TachUnit
  frontEnd : FrontEnd
  scan : Option ScanRecord
  table : List Entry
  blockage : Blockage
  /-- the sequence counter (R63) -/
  sequence : BitVec 12
  /-- the read-rate window, oldest first (R90) -/
  readWindow : List ReadOutcome
  pockets : PerPocket Pocket
  line : Line
  /-- the commands that are waiting, first in, first out: the model's own (log 1) -/
  pending : List Instr
  deriving DecidableEq, Repr

/-- The spec gives the station no event that stops it, so there is no fault. -/
inductive Fault where
  deriving DecidableEq, Repr

/-- The only refusal is that of a command without a meaning, which no command of this model is. -/
inductive Refusal where
  /-- Raised by Dispatch for a row that has no meaning yet; safe: the machine stops. -/
  | notModelled (mnemonic : String)
  deriving DecidableEq, Repr

/-- Ring and P8 after every reset (R10). -/
def TachUnit.atReset : TachUnit :=
  { count := 0, ring := ⟨65535, 65535, 65535, 65535, 65535, 65535, 65535, 65535⟩, p8 := 65535, elapsed := 65535 }

/-- The front end after every reset and at the sampler's start (R18 to R20). -/
def FrontEnd.atReset : FrontEnd :=
  { accepted := .space, pending := 0, width := 0, capture := .closed, quietSeen := false, runBuffer := [],
    searchSamples := 0 }

/-- A pocket after a power-on or pin reset, without a rule (R114, R116, R120, R124). -/
def Pocket.atReset : Pocket :=
  { state := .off, fault := false, missCount := 0, tally := 0, ops := [], drive := .off }

/-- The machine right after the release of a power-on reset: LOADING, with the configuration read begun (R166, R168).
DESIGN CHOICE (log 5, 6), unsafe: the input pins' levels, the straps, SOF_tach. -/
def State.reset : State :=
  { pins :=
      { powerOk := true, resetHigh := true, pcellBlocked := false, stopHigh := true,
        pfull := ⟨false, false, false, false⟩, pswap := ⟨false, false, false, false⟩ },
    runState := .loading,
    straps := { station := 0, rate := 0, vpol := false },
    config := none,
    loader := { selected := true, sent := [0x03, 0x00, 0x00], header := [] },
    powerLost := false,
    haltedAtEntry := false,
    stopReleased := true,
    conditions := { active := 0, deltas := 0, markedLatched := 0, markedDeltas := 0 },
    counters :=
      { sightings := 0, goodReads := 0, failedReads := 0, claims := 0, diverted := 0, released := 0, lost := 0,
        runouts := 0 },
    tach := TachUnit.atReset,
    frontEnd := FrontEnd.atReset,
    scan := none,
    table := [],
    blockage := .none,
    sequence := 0,
    readWindow := [],
    pockets := ⟨Pocket.atReset, Pocket.atReset, Pocket.atReset, Pocket.atReset⟩,
    line := { state := .inactive, sofTach := 0, ackDriven := false, sending := [], queue := [], discards := 0 },
    pending := [] }

end Sys2Proof.Machine
end

