-- ==== Sys2Proof/Machine/Operands.lean ====
section
/-! DEFINITION. The forms in which rules take their operands: positions and windows (R3 to R5), saturating counts,
per-pocket selection, the video level of a sample (R17), the digits of a code (section 3.1, R32), an entry's reference
position (section 4.1). -/

namespace Sys2Proof

/-! ### Pockets -/

def PerPocket.get {α : Type} (v : PerPocket α) (k : Fin 4) : α :=
  match k with
  | 0 => v.p0
  | 1 => v.p1
  | 2 => v.p2
  | 3 => v.p3

def PerPocket.set {α : Type} (v : PerPocket α) (k : Fin 4) (x : α) : PerPocket α :=
  match k with
  | 0 => { v with p0 := x }
  | 1 => { v with p1 := x }
  | 2 => { v with p2 := x }
  | 3 => { v with p3 := x }

def PerPocket.map {α β : Type} (f : α → β) (v : PerPocket α) : PerPocket β := ⟨f v.p0, f v.p1, f v.p2, f v.p3⟩

/-- Some pocket passes the test. -/
def PerPocket.any {α : Type} (f : α → Bool) (v : PerPocket α) : Bool := f v.p0 || f v.p1 || f v.p2 || f v.p3

end Sys2Proof

namespace Sys2Proof.Machine

/-! ### Counts that saturate (00_scope.md section 5) -/

/-- One more, staying at the maximum of the width. -/
def satInc {n : Nat} (x : BitVec n) : BitVec n := if x = BitVec.allOnes n then x else x + 1

/-- So many more, staying at 65535. -/
def satAdd (x : Word) (n : Nat) : Word := BitVec.ofNat 16 (min 65535 (x.toNat + n))

/-- One µs less of a timer, staying at 0. -/
def countDown (x : Word) : Word := if x = 0 then 0 else x - 1

/-! ### Positions -/

/-- The forward difference from a to b (R3). -/
def forward (a b : Pos) : Nat := (b - a).toNat

/-- b is after a (R3). -/
def isAfter (b a : Pos) : Bool := decide (1 ≤ forward a b) && decide (forward a b ≤ 32767)

/-- b is at or after a (R3). -/
def atOrAfter (b a : Pos) : Bool := decide (forward a b ≤ 32767)

/-- The window [x, y] contains the position c (R4). -/
def inWindow (x y c : Pos) : Bool := decide (forward x c ≤ forward x y)

/-- A point set to x is reached: x is at or before the count (R5, log 3). -/
def reachedAt (count x : Pos) : Bool := atOrAfter count x

/-- A point that may be absent is present and reached. -/
def pointReached (count : Pos) : Option Pos → Bool
  | some x => reachedAt count x
  | none => false

/-! ### Lists -/

/-- Changes the first element that passes the test. -/
def modifyFirst {α : Type} (p : α → Bool) (f : α → α) : List α → List α
  | [] => []
  | x :: xs => if p x then f x :: xs else x :: modifyFirst p f xs

/-- Removes the last element that passes the test. -/
def removeLast {α : Type} (p : α → Bool) (xs : List α) : List α := (xs.reverse.eraseP p).reverse

/-! ### Video, straps -/

/-- The effective polarity: VPOL combined with the configured bit (R17). -/
def effectivePolarity (straps : Straps) (cfg : StationConfig) : Bool := straps.vpol != cfg.polarity

/-- What a sample of VIDEO is read as (R17): with polarity 0 a high sample is a bar, with polarity 1 a low one. -/
def sampleLevel (polarity high : Bool) : Level := if high != polarity then .bar else .space

/-- The cell time of the line in µs for the latched LR straps (R140). -/
def cellMicros (rate : BitVec 2) : Nat := 2 * 2 ^ (3 - rate.toNat)

/-- REFCLK cycles per cell (R140). -/
def cellCycles (rate : BitVec 2) : Nat := 32 * cellMicros rate

/-- REFCLK cycles per sample for the configured divider (R16). -/
def sampleCycles (cfg : StationConfig) : Nat := 2 ^ cfg.divider

/-! ### Codes -/

/-- Digit i of a code, D0 first (section 3.1). -/
def codeDigit (c : Code) (i : Nat) : Nat := (c.toNat / 16 ^ (11 - i)) % 16

/-- The class D0D1 of a code. -/
def codeClass (c : Code) : Byte := c.extractLsb' 40 8

/-- The account reference D2..D10 of a code. -/
def codeAccount (c : Code) : Account := c.extractLsb' 4 36

/-- The sum of R32: the digits at even indices weigh 3, those at odd indices 1, D11 counts once. -/
def weightedSum (c : Code) : Nat :=
  3 * (codeDigit c 0 + codeDigit c 2 + codeDigit c 4 + codeDigit c 6 + codeDigit c 8 + codeDigit c 10)
    + (codeDigit c 1 + codeDigit c 3 + codeDigit c 5 + codeDigit c 7 + codeDigit c 9) + codeDigit c 11

/-- The check digit test (R32). -/
def checkDigitPasses (c : Code) : Bool := weightedSum c % 16 == 0

/-! ### Entries and operations -/

/-- The reference position of an entry: A if it has one, E otherwise (section 4.1). -/
def Entry.reference (e : Entry) : Pos :=
  match e.arrival with
  | some a => a
  | none => e.expectedAt.getD 0

/-- An operation is active while it is in PULL_IN or HOLD (section 7.2). -/
def GateOp.active (o : GateOp) : Bool := o.state == .pullIn || o.state == .hold

/-- An operation has fired when it has left ARMED (section 7.2). -/
def GateOp.fired (o : GateOp) : Bool := o.state != .armed

/-- An operation is an entry's own operation while it is not confirmed: the tie ends at the confirm (R131, log 20). -/
def GateOp.tiedTo (id : LetterId) (o : GateOp) : Bool := o.id == id && !o.confirmed

/-! ### The state -/

/-- The configuration, or the absent one (log 23). -/
def State.cfg (s : State) : StationConfig := s.config.getD StationConfig.absent

/-- The station takes letter work or line work in these states (R115, R139): JOINING, RUNNING or JAMMED. -/
def State.joined (s : State) : Bool := s.runState == .joining || s.runState == .running || s.runState == .jammed

/-- The entry with the letter ID. -/
def State.entry (s : State) (id : LetterId) : Option Entry := s.table.find? (fun e => e.id == id)

/-- Changes the entry with the letter ID, leaving its place. -/
def State.modifyEntry (s : State) (id : LetterId) (f : Entry → Entry) : State :=
  { s with table := s.table.map (fun e => if e.id = id then f e else e) }

def State.pocket (s : State) (k : Fin 4) : Pocket := s.pockets.get k

def State.setPocket (s : State) (k : Fin 4) (p : Pocket) : State := { s with pockets := s.pockets.set k p }

def State.rule (s : State) (k : Fin 4) : PocketRule := s.cfg.rules.get k

/-- A sender is upstream when its position is smaller than the station's own (R7). -/
def State.upstream (s : State) (h : Header) : Bool := decide (h.position < s.cfg.position)

/-- The own operation of an entry and the pocket it is in (R121: at most one). -/
def State.ownOp (s : State) (id : LetterId) : Option (Fin 4 × GateOp) :=
  [0, 1, 2, 3].findSome? (fun k => ((s.pocket k).ops.find? (GateOp.tiedTo id)).map (fun o => (k, o)))

end Sys2Proof.Machine
end

