-- ==== Sys2Proof/Machine/Decoder.lean ====
section
/-! DEFINITION. Return code decoding: the symbology (section 3.2), the decoding of a run (R33 to R41), the candidate list
(R45) and the read record (R49 to R51). -/

namespace Sys2Proof.Machine

/-- What a pattern of four module counts stands for (section 3.2). -/
inductive Symbol where
  | digit (d : Nat)
  | start
  | stop
  deriving DecidableEq, Repr

/-- The symbology table of section 3.2; 2222 and every other pattern stand for nothing. -/
def symbolOf : Nat → Nat → Nat → Nat → Option Symbol
  | 3, 2, 2, 1 => some (.digit 0)
  | 3, 2, 1, 2 => some (.digit 1)
  | 3, 1, 2, 2 => some (.digit 2)
  | 2, 3, 2, 1 => some (.digit 3)
  | 2, 3, 1, 2 => some (.digit 4)
  | 2, 2, 3, 1 => some (.digit 5)
  | 2, 2, 1, 3 => some (.digit 6)
  | 2, 1, 3, 2 => some (.digit 7)
  | 2, 1, 2, 3 => some (.digit 8)
  | 1, 3, 2, 2 => some (.digit 9)
  | 1, 2, 3, 2 => some (.digit 10)
  | 1, 2, 2, 3 => some (.digit 11)
  | 3, 1, 3, 1 => some (.digit 12)
  | 3, 1, 1, 3 => some (.digit 13)
  | 1, 3, 3, 1 => some (.digit 14)
  | 1, 3, 1, 3 => some (.digit 15)
  | 1, 1, 3, 3 => some .start
  | 3, 3, 1, 1 => some .stop
  | _, _, _, _ => none

/-- The four widths of a symbol, in samples (R35). -/
structure SymbolWidths where
  w0 : Nat
  w1 : Nat
  w2 : Nat
  w3 : Nat
  deriving DecidableEq, Repr

def SymbolWidths.total (x : SymbolWidths) : Nat := x.w0 + x.w1 + x.w2 + x.w3

/-- The module counts with which a digit is printed (section 3.2). -/
def digitModules : Nat → List Nat
  | 0 => [3, 2, 2, 1]
  | 1 => [3, 2, 1, 2]
  | 2 => [3, 1, 2, 2]
  | 3 => [2, 3, 2, 1]
  | 4 => [2, 3, 1, 2]
  | 5 => [2, 2, 3, 1]
  | 6 => [2, 2, 1, 3]
  | 7 => [2, 1, 3, 2]
  | 8 => [2, 1, 2, 3]
  | 9 => [1, 3, 2, 2]
  | 10 => [1, 2, 3, 2]
  | 11 => [1, 2, 2, 3]
  | 12 => [3, 1, 3, 1]
  | 13 => [3, 1, 1, 3]
  | 14 => [1, 3, 3, 1]
  | _ => [1, 3, 1, 3]

/-- The 57 module counts of a printed code: START, the twelve digits, STOP and the terminator (section 3.2). -/
def codeModules (c : Code) : List Nat :=
  [1, 1, 3, 3] ++ (List.range 12).flatMap (fun i => digitModules (codeDigit c i)) ++ [3, 3, 1, 1] ++ [2]

/-- The run a printed code gives when its module is m samples wide. -/
def printedRun (c : Code) (m : Nat) : List Word := (codeModules c).map (fun n => BitVec.ofNat 16 (m * n))

/-- Grouping (R35): symbols of four elements, and the elements left over (the terminator of a 57-element run). -/
def groupSymbols : List Nat → List SymbolWidths × List Nat
  | a :: b :: c :: d :: rest => (⟨a, b, c, d⟩ :: (groupSymbols rest).1, (groupSymbols rest).2)
  | rest => ([], rest)

/-- The module count of an element of width w in a symbol of total t (R36). -/
def moduleCount (w t : Nat) : Nat := (16 * w + t) / (2 * t)

/-- A module count outside 1..3 fails the attempt (R36). -/
def countInRange (n : Nat) : Bool := decide (1 ≤ n) && decide (n ≤ 3)

/-- Width classification of one symbol (R36). -/
def classified (x : SymbolWidths) : Bool :=
  countInRange (moduleCount x.w0 x.total) && countInRange (moduleCount x.w1 x.total)
    && countInRange (moduleCount x.w2 x.total) && countInRange (moduleCount x.w3 x.total)

/-- Pattern lookup of one symbol (R37). -/
def lookupSymbol (x : SymbolWidths) : Option Symbol :=
  symbolOf (moduleCount x.w0 x.total) (moduleCount x.w1 x.total) (moduleCount x.w2 x.total) (moduleCount x.w3 x.total)

/-- The digits of symbols 1 to 12: each must be a digit (R37). -/
def digitsOf : List (Option Symbol) → Option (List Nat)
  | [] => some []
  | some (.digit d) :: rest => (digitsOf rest).map (fun ds => d :: ds)
  | _ :: _ => none

/-- The places of the symbols: START, twelve digits, STOP (R37). -/
def placedDigits (symbols : List (Option Symbol)) : Option (List Nat) :=
  if symbols.length = 14 ∧ symbols.head? = some (some .start) ∧ symbols.getLast? = some (some .stop) then
    digitsOf ((symbols.drop 1).take 12)
  else none

/-- The pitch check (R38): 4·|14·T - S| ≤ S for every symbol. -/
def pitchPasses (symbols : List SymbolWidths) : Bool :=
  let total := (symbols.map SymbolWidths.total).sum
  symbols.all (fun x => decide (4 * (14 * x.total - total) ≤ total) && decide (4 * (total - 14 * x.total) ≤ total))

/-- The terminator check against the STOP symbol's total (R39). -/
def terminatorPasses (symbols : List SymbolWidths) (leftOver : List Nat) : Bool :=
  match symbols.getLast?, leftOver with
  | some x, [w] => moduleCount w x.total == 2
  | _, _ => false

/-- The code of twelve digits, D0 in the top nibble. -/
def codeOfDigits (ds : List Nat) : Code := ds.foldl (fun acc d => (acc <<< 4) ||| BitVec.ofNat 48 d) 0

/-- One attempt on 57 widths (R34): the six stages in order; it fails at the first it does not pass. -/
def attemptDecode (widths : List Nat) : Option Code :=
  let symbols := (groupSymbols widths).1
  if !symbols.all classified then none
  else
    match placedDigits (symbols.map lookupSymbol) with
    | none => none
    | some ds =>
      if pitchPasses symbols && terminatorPasses symbols (groupSymbols widths).2 && checkDigitPasses (codeOfDigits ds) then
        some (codeOfDigits ds)
      else none

/-- The decoding of a run of 57 elements: forward, then reverse if the forward attempt failed (R34). -/
def decodeRun (run : List Word) : Option (Code × Direction) :=
  let widths := run.map BitVec.toNat
  match attemptDecode widths with
  | some c => some (c, .forward)
  | none =>
    match attemptDecode widths.reverse with
    | some c => some (c, .reverse)
    | none => none

/-- A decode offered to the candidate list (R45). -/
def offerDecode (c : Code) (d : Direction) (cs : List Candidate) : List Candidate :=
  if cs.any (fun x => x.code == c) then
    modifyFirst (fun x => x.code == c) (fun x => { x with count := satInc x.count }) cs
  else if cs.length < maxCandidates then cs ++ [{ code := c, count := 1, direction := d }]
  else cs

/-- The decoder takes a run into the scan record (R33, R41). -/
def ScanRecord.takeRun (run : List Word) (r : ScanRecord) : ScanRecord :=
  if run.length = 57 then
    match decodeRun run with
    | some (c, d) =>
      { r with
        runs := satInc r.runs, fullRuns := satInc r.fullRuns, decodes := satInc r.decodes,
        candidates := offerDecode c d r.candidates }
    | none => { r with runs := satInc r.runs, fullRuns := satInc r.fullRuns }
  else { r with runs := satInc r.runs }

/-- The largest count of a candidate list, 0 when it is empty. -/
def highestCount (cs : List Candidate) : Nat := cs.foldl (fun m x => max m x.count.toNat) 0

/-- The winner of the vote (R49): at least VOTE_MIN, and strictly above every other candidate. -/
def voteWinner (voteMin : Nat) (cs : List Candidate) : Option Candidate :=
  cs.find? (fun x =>
    decide (voteMin ≤ x.count.toNat) && cs.all (fun y => y.code == x.code || decide (y.count.toNat < x.count.toNat)))

/-- The reason of a failed read: the first that holds (R50). -/
def failReason (voteMin : Nat) (r : ScanRecord) : FailReason :=
  if r.fullRuns = 0 then .noRun
  else if r.candidates.isEmpty then .noDecode
  else if decide (2 ≤ (r.candidates.filter (fun x => x.count.toNat == highestCount r.candidates)).length)
      && decide (voteMin ≤ highestCount r.candidates) then .tie
  else .tooFew

/-- The read record of a closing window (R49 to R51). -/
def formReadRecord (voteMin : Nat) (r : ScanRecord) : ReadRecord :=
  match voteWinner voteMin r.candidates with
  | some x =>
    let runnerUp := highestCount (r.candidates.filter (fun y => y.code != x.code))
    { id := r.id,
      verdict :=
        .good x.code x.count (BitVec.ofNat 8 runnerUp) (BitVec.ofNat 4 (min 15 (x.count.toNat - runnerUp))) x.direction,
      sweeps := r.sweeps }
  | none => { id := r.id, verdict := .failed (failReason voteMin r), sweeps := r.sweeps }

/-- A scan record as a window opens (R42). -/
def newScanRecord (id : LetterId) : ScanRecord :=
  { id := id, closePoint := none, sweeps := 0, runs := 0, fullRuns := 0, decodes := 0, candidates := [] }

end Sys2Proof.Machine
end

