-- ==== Sys2Proof/Decode.lean ====
section
/-! DEFINITION. Reading what comes in as bits. The table's rows give no bits, so decodeTableWord answers none. What the
block does read bit by bit are the frames of the track line: their layouts (section 8.6), the CRC-8 (R145), stuffing
(R143), the judgement of a frame (R146) and the row a well-formed frame belongs to (R162). The encoder of frames stands
after it, written from the same layouts. The CRC-16 of the configuration image (R170) stands here too. -/

namespace Sys2Proof

/-- No row of spec/opcode_table.json gives bits, so no word spells a command. -/
def decodeTableWord (_nbits _w : Nat) : Option Instr := none

/-! ### Bytes and bits (R144: most significant first) -/

/-- The bits of a byte, most significant first. -/
def byteBits (b : Byte) : List Bool :=
  [b.getLsbD 7, b.getLsbD 6, b.getLsbD 5, b.getLsbD 4, b.getLsbD 3, b.getLsbD 2, b.getLsbD 1, b.getLsbD 0]

/-- The byte of eight bits, most significant first. -/
def bitsByte (bits : List Bool) : Byte :=
  bits.foldl (fun acc b => (acc <<< 1) ||| (BitVec.ofBool b).setWidth 8) 0

/-- The bits of a list of bytes, in the order they are sent. -/
def bytesBits : List Byte → List Bool
  | [] => []
  | b :: bs => byteBits b ++ bytesBits bs

/-- The bytes of a list of bits, eight at a time; bits left over are dropped. -/
def bitsBytes : List Bool → List Byte
  | b7 :: b6 :: b5 :: b4 :: b3 :: b2 :: b1 :: b0 :: rest => bitsByte [b7, b6, b5, b4, b3, b2, b1, b0] :: bitsBytes rest
  | _ => []

/-- The bytes of a 16-bit field, most significant first. -/
def wordBytes (w : Word) : List Byte := [w.extractLsb' 8 8, w.extractLsb' 0 8]

/-- The 16-bit field of two bytes, the first most significant. -/
def bytesWord (hi lo : Byte) : Word := hi ++ lo

/-- A letter ID in two bytes: station in the high four bits, sequence in the low twelve (section 8.6). -/
def LetterId.toWord (id : LetterId) : Word := id.origin ++ id.seq

/-- The letter ID of a 16-bit field. -/
def LetterId.ofWord (w : Word) : LetterId := { origin := w.extractLsb' 12 4, seq := w.extractLsb' 0 12 }

/-- A letter ID in two bytes of a body. -/
def idBytes (id : LetterId) : List Byte := wordBytes id.toWord

/-- The letter ID of two bytes of a body. -/
def bytesId (hi lo : Byte) : LetterId := LetterId.ofWord (bytesWord hi lo)

/-- A code in six bytes, D0 in the high nibble of the first (section 8.6). -/
def codeBytes (c : Code) : List Byte :=
  [c.extractLsb' 40 8, c.extractLsb' 32 8, c.extractLsb' 24 8, c.extractLsb' 16 8, c.extractLsb' 8 8, c.extractLsb' 0 8]

/-- The code of six bytes. -/
def bytesCode (b0 b1 b2 b3 b4 b5 : Byte) : Code := b0 ++ b1 ++ b2 ++ b3 ++ b4 ++ b5

/-! ### The two CRCs -/

/-- One bit of the CRC-8 register (R145): compare the top bit with the data bit, shift left, exclusive-OR 07 hex. -/
def crc8Bit (reg : Byte) (bit : Bool) : Byte :=
  if (reg.getLsbD 7) != bit then (reg <<< 1) ^^^ 0x07#8 else reg <<< 1

/-- The CRC byte over the header and body (R145), from FF hex, with no final inversion. -/
def crc8 (bytes : List Byte) : Byte := (bytesBits bytes).foldl crc8Bit 0xFF#8

/-- One bit of the CRC-16 register (R170), with 1021 hex. -/
def crc16Bit (reg : Word) (bit : Bool) : Word :=
  if (reg.getLsbD 15) != bit then (reg <<< 1) ^^^ 0x1021#16 else reg <<< 1

/-- The configuration CRC over the image bytes before the CRC field (R170), from FFFF hex. -/
def crc16 (bytes : List Byte) : Word := (bytesBits bytes).foldl crc16Bit 0xFFFF#16

/-! ### The header (R144, section 8.6) -/

/-- The four header bytes of a frame: kind and station, body length, roles and position. -/
def headerBytes (kind : BitVec 4) (h : Header) (bodyLength : Nat) : List Byte :=
  [kind ++ h.station, BitVec.ofNat 8 bodyLength,
   BitVec.ofBool h.tail ++ BitVec.ofBool h.scanner ++ h.position.extractLsb' 8 6, h.position.extractLsb' 0 8]

/-- The header and body bytes of a frame, as they are sent. -/
def frameData (kind : BitVec 4) (h : Header) (body : List Byte) : List Byte :=
  headerBytes kind h body.length ++ body

/-- The header fields of bytes 0, 2 and 3. -/
def readHeader (b0 b2 b3 : Byte) : Header :=
  { station := b0.extractLsb' 0 4, position := b2.extractLsb' 0 6 ++ b3, tail := b2.getLsbD 7, scanner := b2.getLsbD 6 }

/-! ### Stuffing and the judgement of a frame -/

/-- The cells sent for the bits of a frame after its start cell (R143), with so many 1 cells sent since the last 0:
a 0 cell is put in after seven 1 cells, also after the last bit. -/
def stuffCells : Nat → List Bool → List Bool
  | ones, [] => if ones = 7 then [false] else []
  | ones, b :: bs =>
    if ones = 7 then
      false :: b :: stuffCells (if b then 1 else 0) bs
    else b :: stuffCells (if b then ones + 1 else 0) bs

/-- The cells of a frame after its start cell: header, body and CRC byte, with stuff cells (R143, R144). -/
def frameCells (data : List Byte) : List Bool := stuffCells 0 (bytesBits (data ++ [crc8 data]))

/-- Why a frame is broken (R146). -/
inductive BreakCause where
  | stuffError
  | bodyLength
  | crcMismatch
  deriving DecidableEq, Repr

/-- What a receiver finds of the cells of a frame (R146); a frame not yet at its end is under way. -/
inductive Judgement where
  | underWay
  | broken (cause : BreakCause)
  | wellFormed (data : List Byte)
  deriving DecidableEq, Repr

/-- Judges the data bits read so far, the last of them just read (R146): the body length at the end of byte 1, the CRC at
the end of the CRC byte. -/
def judgeBits (bits : List Bool) : Judgement :=
  let bytes := bitsBytes bits
  let bodyLength := (bytes.getD 1 0).toNat
  if bits.length < 16 then .underWay
  else if 12 < bodyLength then .broken .bodyLength
  else if bits.length < 8 * (5 + bodyLength) then .underWay
  else if crc8 (bytes.take (4 + bodyLength)) = bytes.getD (4 + bodyLength) 0 then .wellFormed (bytes.take (4 + bodyLength))
  else .broken .crcMismatch

/-- Follows a frame cell by cell from the header on (R143, R146), with the 1 cells counted since the last 0 and the data
bits read so far. The receiver stops at the first cell that breaks or ends the frame and reads no later one. DEDUCED
(log 26): a stuff cell that is due after the last CRC cell is not read, so a 1 in it breaks no frame. -/
def judgeFrom : Nat → List Bool → List Bool → Judgement
  | _, _, [] => .underWay
  | ones, bits, c :: cs =>
    if ones = 7 then
      if c then .broken .stuffError else judgeFrom 0 bits cs
    else
      match judgeBits (bits ++ [c]) with
      | .underWay => judgeFrom (if c then ones + 1 else 0) (bits ++ [c]) cs
      | j => j

/-- The judgement of the cells of a frame after its start cell. -/
def judgeCells (cells : List Bool) : Judgement := judgeFrom 0 [] cells

/-! ### From a well-formed frame to its row (R162) and back -/

/-- The row of a well-formed frame of this kind and body (R162). A kind without owner, or a body of a length the kind does
not allow, is the ignored frame's row. -/
def commandOf (kind : BitVec 4) (h : Header) (body : List Byte) : Instr :=
  match kind.toNat, body with
  | 0, [r] => .jamReceived h r
  | 1, [] => .clearReceived h
  | 2, [a, b, k] => .claimReceived h (bytesId a b) k
  | 3, [a, b, k, r] => .releaseReceived h (bytesId a b) k r
  | 4, [a, b, k, t, u] => .divertedReceived h (bytesId a b) k (bytesWord t u)
  | 5, [a, b, g, i, l, m] => .sightReceived h (bytesId a b) (bytesWord g i) (bytesWord l m)
  | 6, [a, b, o, q, w] => .readReceived h (bytesId a b) o q w none
  | 6, [a, b, o, q, w, c0, c1, c2, c3, c4, c5] =>
    .readReceived h (bytesId a b) o q w (some (bytesCode c0 c1 c2 c3 c4 c5))
  | 7, [a, b] => .lostReceived h (bytesId a b)
  | 9, [t] => .pollReceived h t
  | 11, [p, c, d] => .joinReceived h p (bytesWord c d)
  | _, _ => .ignoredFrameReceived h kind body

/-- The row of the header and body bytes of a well-formed frame. -/
def commandOfData : List Byte → Option Instr
  | b0 :: _ :: b2 :: b3 :: body => some (commandOf (b0.extractLsb' 4 4) (readHeader b0 b2 b3) body)
  | _ => none

/-- The row of the cells a receiver reads after a start of frame: a received frame's, or BROKEN_FRAME (R146, R160). -/
def commandOfCells (cells : List Bool) : Option Instr :=
  match judgeCells cells with
  | .underWay => none
  | .broken _ => some (.brokenFrame cells)
  | .wellFormed data => commandOfData data

/-- The kind, header and body of the frame a received-frame row stands for (section 8.6). -/
def frameOf : Instr → Option (BitVec 4 × Header × List Byte)
  | .jamReceived h r => some (0, h, [r])
  | .clearReceived h => some (1, h, [])
  | .claimReceived h id k => some (2, h, idBytes id ++ [k])
  | .releaseReceived h id k r => some (3, h, idBytes id ++ [k, r])
  | .divertedReceived h id k t => some (4, h, idBytes id ++ [k] ++ wordBytes t)
  | .sightReceived h id g l => some (5, h, idBytes id ++ wordBytes g ++ wordBytes l)
  | .readReceived h id o q w none => some (6, h, idBytes id ++ [o, q, w])
  | .readReceived h id o q w (some c) => some (6, h, idBytes id ++ [o, q, w] ++ codeBytes c)
  | .lostReceived h id => some (7, h, idBytes id)
  | .pollReceived h t => some (9, h, [t])
  | .joinReceived h p c => some (11, h, [p] ++ wordBytes c)
  | .ignoredFrameReceived h kind body => some (kind, h, body)
  | _ => none

/-- The cells, after the start cell, of the frame a received-frame row stands for. -/
def encodeFrame (i : Instr) : Option (List Bool) :=
  match frameOf i with
  | some (kind, h, body) => some (frameCells (frameData kind h body))
  | none => none

/-- Whether a frame of this kind and body is one that is acknowledged and ignored (R162). -/
def frameIgnored (kind : BitVec 4) (h : Header) (body : List Byte) : Bool :=
  decide (body.length ≤ 12) && commandOf kind h body == .ignoredFrameReceived h kind body

end Sys2Proof
end

