-- ==== Sys2Proof/Machine/Flags.lean ====
section
/-! DEFINITION. The twelve conditions with their delta bits and reported marks (section 10.2, R184, R187). -/

namespace Sys2Proof.Machine

/-- The conditions in order of rank. -/
inductive Condition where
  | jammed
  | dupStation
  | positionClash
  | pocketFault
  | isolated
  | tableFull
  | pocketFull
  | readRateLow
  | divertAnomaly
  | lineDiscard
  | configClamped
  | pocketDisabled
  deriving DecidableEq, Repr

/-- The rank of a condition, 1..12. -/
def conditionRank : Condition → Nat
  | .jammed => 1
  | .dupStation => 2
  | .positionClash => 3
  | .pocketFault => 4
  | .isolated => 5
  | .tableFull => 6
  | .pocketFull => 7
  | .readRateLow => 8
  | .divertAnomaly => 9
  | .lineDiscard => 10
  | .configClamped => 11
  | .pocketDisabled => 12

/-- The bit of a condition in the maps: bit i - 1 for rank i. -/
def conditionBit (c : Condition) : BitVec 16 := 1#16 <<< (conditionRank c - 1)

/-- The bits of the latched conditions: ranks 2, 3, 6, 9 and 10. -/
def latchedBits : BitVec 16 :=
  conditionBit .dupStation ||| conditionBit .positionClash ||| conditionBit .tableFull ||| conditionBit .divertAnomaly
    ||| conditionBit .lineDiscard

/-- The bits of the conditions a retain reset keeps (R167). -/
def keptBits : BitVec 16 := conditionBit .configClamped ||| conditionBit .pocketDisabled

def Conditions.isActive (x : Conditions) (c : Condition) : Bool := x.active.getLsbD (conditionRank c - 1)

/-- Gives a condition a value. A change sets its delta bit and removes the delta's reported mark (R184, R187). -/
def Conditions.setTo (x : Conditions) (c : Condition) (v : Bool) : Conditions :=
  if x.isActive c = v then x
  else
    { x with
      active := if v then x.active ||| conditionBit c else x.active &&& ~~~conditionBit c,
      deltas := x.deltas ||| conditionBit c,
      markedDeltas := x.markedDeltas &&& ~~~conditionBit c }

/-- A cause of a latched condition: it is set, and its reported mark is removed whether or not it was set (R187). -/
def Conditions.latch (x : Conditions) (c : Condition) : Conditions :=
  { x.setTo c true with markedLatched := x.markedLatched &&& ~~~conditionBit c }

/-- The marks at the start of frame of a STATUS attempt (R187). -/
def Conditions.markReported (x : Conditions) : Conditions :=
  { x with markedLatched := x.active &&& latchedBits, markedDeltas := x.deltas }

/-- The acknowledge of a STATUS: what is still marked is cleared, and every mark removed (R187). -/
def Conditions.clearReported (x : Conditions) : Conditions :=
  { active := x.active &&& ~~~x.markedLatched, deltas := x.deltas &&& ~~~x.markedDeltas, markedLatched := 0,
    markedDeltas := 0 }

/-- The smallest rank whose condition is active, 0 when none is (R186). -/
def Conditions.topRank (x : Conditions) : Nat :=
  match (List.range 12).find? (fun i => x.active.getLsbD i) with
  | some i => i + 1
  | none => 0

/-- A condition of the station takes a value. -/
def State.setCondition (s : State) (c : Condition) (v : Bool) : State :=
  { s with conditions := s.conditions.setTo c v }

/-- A latched condition of the station is set by its cause. -/
def State.latch (s : State) (c : Condition) : State := { s with conditions := s.conditions.latch c }

end Sys2Proof.Machine
end

