-- ==== Sys2Proof/Machine/Frames.lean ====
section
/-! DEFINITION. The frames this station sends: kind codes, bodies and the bytes of an attempt (R144, R147, R186, section
8.6). -/

namespace Sys2Proof.Machine

/-- The kind code of a frame (R162). -/
def frameKind : Frame → Nat
  | .jam _ => 0
  | .clear => 1
  | .claim _ _ => 2
  | .release _ _ _ => 3
  | .diverted _ _ _ => 4
  | .sight _ _ _ => 5
  | .read _ => 6
  | .lost _ => 7
  | .runout _ _ _ => 8
  | .status => 10
  | .join _ _ => 11

/-- The letter frames, which the entry into JAMMED purges (R158). -/
def isLetterFrame : Frame → Bool
  | .claim _ _ => true
  | .release _ _ _ => true
  | .diverted _ _ _ => true
  | .sight _ _ _ => true
  | .read _ => true
  | .lost _ => true
  | .runout _ _ _ => true
  | .jam _ => false
  | .clear => false
  | .status => false
  | .join _ _ => false

def jamReasonByte : JamReason → Byte
  | .ownPhotocell => 0
  | .stop => 1
  | .clearRefused => 2

def releaseReasonByte : ReleaseReason → Byte
  | .miss => 0
  | .swap => 1
  | .rejudged => 2

def pocketByte (k : Fin 4) : Byte := BitVec.ofNat 8 k.val

def identityStateByte : IdentityState → Byte
  | .unread => 0
  | .failed => 1
  | .settled => 2
  | .conflict => 3

/-- The READ outcome byte (section 8.6): outcome in bits 7..6, reason in 5..4, direction in 3. -/
def outcomeByte : Verdict → Byte
  | .good _ _ _ _ .forward => 0x40
  | .good _ _ _ _ .reverse => 0x48
  | .failed .noRun => 0x80
  | .failed .noDecode => 0x90
  | .failed .tooFew => 0xA0
  | .failed .tie => 0xB0

/-- The two bits of a pocket in a STATUS (R186). -/
def pocketStateBits : PocketState → BitVec 2
  | .off => 0b00
  | .ready => 0b01
  | .full => 0b10
  | .out => 0b10
  | .fault => 0b11

/-- The body of a STATUS, formed from the station's state and the conditions at the start-of-frame edge (R186). -/
def statusBody (s : State) (c : Conditions) (discards : Byte) : List Byte :=
  [BitVec.ofNat 8 c.topRank] ++ wordBytes c.active ++ wordBytes c.deltas
    ++ [pocketStateBits s.pockets.p3.state ++ pocketStateBits s.pockets.p2.state
          ++ pocketStateBits s.pockets.p1.state ++ pocketStateBits s.pockets.p0.state,
        BitVec.ofNat 8 s.table.length, discards]
    ++ wordBytes s.counters.goodReads ++ wordBytes s.counters.failedReads

/-- The body of a frame: a SIGHT carries the age formed at the start of frame, a STATUS the body formed then (R147). -/
def frameBody (age : Word) (status : List Byte) : Frame → List Byte
  | .jam r => [jamReasonByte r]
  | .clear => []
  | .claim id k => idBytes id ++ [pocketByte k]
  | .release id k r => idBytes id ++ [pocketByte k, releaseReasonByte r]
  | .diverted id k t => idBytes id ++ [pocketByte k] ++ wordBytes t
  | .sight id _ l => idBytes id ++ wordBytes age ++ wordBytes l
  | .read ⟨id, .good code votes runnerUp q d, sweeps⟩ =>
    idBytes id ++ [outcomeByte (.good code votes runnerUp q d), q.setWidth 8, sweeps] ++ codeBytes code
  | .read ⟨id, .failed r, sweeps⟩ => idBytes id ++ [outcomeByte (.failed r), 0, sweeps]
  | .lost id => idBytes id
  | .runout id st code =>
    idBytes id ++ [identityStateByte st] ++
      (match code with
       | some c => codeBytes c
       | none => [])
  | .status => status
  | .join n crc => [BitVec.ofNat 8 n] ++ wordBytes crc

/-- The header of every frame of this station (R144): strapped number, configured position and roles. -/
def State.ownHeader (s : State) : Header :=
  { station := s.straps.station, position := s.cfg.position, tail := s.cfg.tail, scanner := s.cfg.scanner }

/-- The bytes of an attempt: header, body and CRC byte (R144, R145). -/
def attemptBytes (s : State) (c : Conditions) (age : Word) (discards : Byte) (f : Frame) : List Byte :=
  let data := frameData (BitVec.ofNat 4 (frameKind f)) s.ownHeader (frameBody age (statusBody s c discards) f)
  data ++ [crc8 data]

end Sys2Proof.Machine
end

