-- ==== Sys2Proof/Machine/Queue.lean ====
section
/-! DEFINITION. The transmit queue and the start of an attempt (R147, R152 to R157). The functions work on the Line
Interface and the conditions together, the two parts of the state they change; State.enqueue and its like put the result
back. -/

namespace Sys2Proof.Machine

/-- A frame as it is queued: attempt count 0 (section 8.3), with a stale point A + 16384 for a SIGHT (R156). -/
def newQueued (f : Frame) : QueuedFrame :=
  { frame := f, attempts := 0, inFlight := false, staleReached := false, replaced := false,
    stalePoint :=
      match f with
      | .sight _ a _ => some (a + 16384#16)
      | _ => none }

def isStatus : Frame → Bool
  | .status => true
  | _ => false

def isJoin : Frame → Bool
  | .join _ _ => true
  | _ => false

/-- A CLAIM of this station for the letter (R157). -/
def isClaimFor (id : LetterId) : Frame → Bool
  | .claim i _ => i == id
  | _ => false

/-- Places a frame after every frame of a kind code at or below its own and before every frame of one above (R153). -/
def placeFrame (q : QueuedFrame) : List QueuedFrame → List QueuedFrame
  | [] => [q]
  | x :: xs => if frameKind q.frame < frameKind x.frame then q :: x :: xs else x :: placeFrame q xs

/-- The largest kind code among frames, 0 when there is none. -/
def largestKind (fs : List QueuedFrame) : Nat := fs.foldl (fun k f => max k (frameKind f.frame)) 0

/-- A discard: LINE_DISCARD is latched and the line discard count rises (R147, R151, R154, R156). -/
def countDiscard (w : Line × Conditions) : Line × Conditions :=
  ({ w.1 with discards := satInc w.1.discards }, w.2.latch .lineDiscard)

/-- The age of a SIGHT at a start of frame (R147); other frames have none. -/
def ageAt (count : Pos) : Frame → Word
  | .sight _ a _ => count - a
  | _ => 0

/-- Starts an attempt with the head of the queue (R147): the start cell's edge latches SOF_tach (R142), a stale SIGHT is
withdrawn and discarded and the station follows as a receiver, a STATUS is marked (R187) and its body formed. -/
def startAttempt (s : State) (w : Line × Conditions) : Line × Conditions :=
  match w.1.queue with
  | [] => w
  | f :: rest =>
    if 16383 < (ageAt s.tach.count f.frame).toNat then
      countDiscard
        ({ w.1 with
            state := .inFrame .receiver, sofTach := s.tach.count, ackDriven := false, sending := [], queue := rest }, w.2)
    else
      let c := if isStatus f.frame then w.2.markReported else w.2
      ({ w.1 with
          state := .inFrame .sender, sofTach := s.tach.count, ackDriven := false,
          sending := attemptBytes s c (ageAt s.tach.count f.frame) w.1.discards f.frame,
          queue := { f with inFlight := true } :: rest }, c)

/-- Places a new frame, or lets the newest frame of the largest kind not in flight give way, or discards the new frame
(R153, R154). -/
def placeNew (f : Frame) (w : Line × Conditions) : Line × Conditions :=
  if w.1.queue.length < maxQueue then
    ({ w.1 with queue := placeFrame (newQueued f) w.1.queue }, w.2)
  else
    let k := largestKind (w.1.queue.filter (fun q => !q.inFlight))
    if frameKind f < k then
      countDiscard
        ({ w.1 with
            queue :=
              placeFrame (newQueued f)
                (removeLast (fun q => !q.inFlight && frameKind q.frame == k) w.1.queue) }, w.2)
    else countDiscard w

/-- A STATUS that meets a STATUS replaces it in its place, with attempt count 0; a JOIN that meets a JOIN is dropped; any
other frame is placed (R155). -/
def offerFrame (f : Frame) (w : Line × Conditions) : Line × Conditions :=
  if isStatus f && w.1.queue.any (fun q => isStatus q.frame) then
    ({ w.1 with
        queue :=
          w.1.queue.map (fun q => if isStatus q.frame then { q with attempts := 0, replaced := q.inFlight } else q) }, w.2)
  else if isJoin f && w.1.queue.any (fun q => isJoin q.frame) then w
  else placeNew f w

/-- A frame enqueued while the line is free starts at once (R141, R153). -/
def startIfFree (s : State) (w : Line × Conditions) : Line × Conditions :=
  if w.1.state = .free then startAttempt s w else w

/-- A block hands a frame to the Line Interface (R153). -/
def State.enqueue (s : State) (f : Frame) : State :=
  let w := startIfFree s (offerFrame f (s.line, s.conditions))
  { s with line := w.1, conditions := w.2 }

/-- Withdraws this station's CLAIM for the letter (R157): it leaves the queue; an attempt of it under way goes on without
it. -/
def State.withdrawClaim (s : State) (id : LetterId) : State :=
  { s with line := { s.line with queue := s.line.queue.filter (fun q => !isClaimFor id q.frame) } }

/-- A CLAIM for the letter waits with no attempt of it in progress (R113). -/
def State.claimWaits (s : State) (id : LetterId) : Bool :=
  s.line.queue.any (fun q => isClaimFor id q.frame && !q.inFlight)

/-- Entering JAMMED purges the letter frames (R158). -/
def State.purgeLetters (s : State) : State :=
  { s with line := { s.line with queue := s.line.queue.filter (fun q => !isLetterFrame q.frame) } }

/-- The frame in flight leaves the queue. -/
def dropInFlight (l : Line) : Line := { l with queue := l.queue.filter (fun q => !q.inFlight) }

/-- The frame in flight stays, changed, and is no longer in flight; a replaced STATUS is from here the replacement. -/
def keepInFlight (f : QueuedFrame → QueuedFrame) (l : Line) : Line :=
  { l with
    queue := l.queue.map (fun q => if q.inFlight then { f q with inFlight := false, replaced := false } else q) }

/-- The frame in flight, if it has not been withdrawn or purged. -/
def frameInFlight (l : Line) : Option QueuedFrame := l.queue.find? (fun q => q.inFlight)

/-- The end of JOINING when the JOIN's transmission has ended (R176). -/
def State.joinEnded (s : State) : State :=
  if s.runState = .joining then { s with runState := .running } else s

/-- An attempt that counts and was not acknowledged (R151, R156): the third discards the frame and sets ISOLATED; a SIGHT
whose stale point was reached is discarded instead of staying (log 10); a replaced STATUS stays with count 0 (R155). -/
def State.failAttempt (s : State) : State :=
  match frameInFlight s.line with
  | none => s
  | some f =>
    if f.replaced then { s with line := keepInFlight (fun q => { q with attempts := 0 }) s.line }
    else if 2 ≤ f.attempts then
      let w := countDiscard (dropInFlight s.line, s.conditions.setTo .isolated true)
      let t := { s with line := w.1, conditions := w.2 }
      if isJoin f.frame then t.joinEnded else t
    else if f.staleReached then
      let w := countDiscard (dropInFlight s.line, s.conditions)
      { s with line := w.1, conditions := w.2 }
    else { s with line := keepInFlight (fun q => { q with attempts := q.attempts + 1 }) s.line }

/-- An acknowledged attempt (R151): the frame leaves the queue and ISOLATED is cleared; a STATUS clears what it reported
(R187) and, if it was replaced in flight, is queued anew (R155); a JOIN ends JOINING (R176). -/
def State.ackAttempt (s : State) : State :=
  let t := { s with line := dropInFlight s.line, conditions := s.conditions.setTo .isolated false }
  match frameInFlight s.line with
  | none => t
  | some f =>
    if isStatus f.frame then
      let u := { t with conditions := t.conditions.clearReported }
      if f.replaced then u.enqueue .status else u
    else if isJoin f.frame then t.joinEnded
    else t

/-- A lost arbitration leaves the frame and its attempt count (R148), but for a SIGHT whose stale point was reached, which
is discarded (R156). -/
def State.loseArbitration (s : State) : State :=
  match frameInFlight s.line with
  | none => s
  | some f =>
    if f.staleReached then
      let w := countDiscard (dropInFlight s.line, s.conditions)
      { s with line := w.1, conditions := w.2 }
    else { s with line := keepInFlight id s.line }

end Sys2Proof.Machine
end

