-- ==== Sys2Proof/Machine/Ops.lean ====
section
/-! DEFINITION. The operations that several commands share: pocket states (R114), the order and removal of entries (R55,
R56), scan windows (R22, R42, R47), matching (R96), release and re-judgement (R110 to R113), retirement (R77, R78), misses
(R134 to R136), the entries into JAMMED, RUNNING and JOINING (R175, R179). -/

namespace Sys2Proof.Machine

/-! ### Pocket states -/

/-- The state of a pocket from its inputs, the first test that holds (R114). -/
def formedState (rule : PocketRule) (swap full fault : Bool) (tally : Word) : PocketState :=
  if rule.kind = .off then .off
  else if swap then .out
  else if fault then .fault
  else if full || (rule.tallyLimit != 0 && decide (rule.tallyLimit ≤ tally)) then .full
  else .ready

/-- Pocket k with its state formed anew. -/
def State.reformed (s : State) (k : Fin 4) : Pocket :=
  let p := s.pocket k
  { p with state := formedState (s.rule k) (s.pins.pswap.get k) (s.pins.pfull.get k) p.fault p.tally }

/-- POCKET_FAULT and POCKET_FULL follow the pocket states (R114, section 10.2). -/
def pocketConditions (pockets : PerPocket Pocket) (c : Conditions) : Conditions :=
  (c.setTo .pocketFault (pockets.any (fun p => p.state == .fault))).setTo .pocketFull
    (pockets.any (fun p => p.state == .full || p.state == .out))

/-- Forms the state of one pocket anew, and the two level conditions from it (R114). -/
def State.formPocket (s : State) (k : Fin 4) : State :=
  let ps := s.pockets.set k (s.reformed k)
  { s with pockets := ps, conditions := pocketConditions ps s.conditions }

/-- Forms the state of every pocket anew, on entering JOINING (R115, R174, R175). -/
def State.formAllPockets (s : State) : State :=
  let ps : PerPocket Pocket := ⟨s.reformed 0, s.reformed 1, s.reformed 2, s.reformed 3⟩
  { s with pockets := ps, conditions := pocketConditions ps s.conditions }

/-- The drive is needed while some operation is active; otherwise it is OFF (R124, R128). -/
def driveAfter (ops : List GateOp) (d : Drive) : Drive := if ops.any GateOp.active then d else .off

/-- The fault flag and state of a pocket after one more miss (R120). -/
def State.countMiss (s : State) (k : Fin 4) : State :=
  let p := s.pocket k
  let n := satInc p.missCount
  (s.setPocket k { p with missCount := n, fault := p.fault || n == 3 }).formPocket k

/-! ### Scan windows -/

/-- Every close of a window leaves the front end in CLOSED (R22). -/
def FrontEnd.closeCapture (f : FrontEnd) : FrontEnd :=
  { f with capture := .closed, quietSeen := false, runBuffer := [], searchSamples := 0 }

/-- The opening of a window, and every restart of the quiet search (R21, R29). -/
def FrontEnd.seekQuiet (f : FrontEnd) : FrontEnd :=
  { f with capture := .seekingQuiet, quietSeen := false, runBuffer := [], searchSamples := 0 }

/-- Discards an open window with no read record (R47). -/
def State.discardWindow (s : State) : State := { s with scan := none, frontEnd := s.frontEnd.closeCapture }

/-- The open window belongs to the letter. -/
def State.windowIs (s : State) (id : LetterId) : Bool :=
  match s.scan with
  | some r => r.id == id
  | none => false

/-- Opens a window for an entry, at a station with the SCANNER role (R42, R21). -/
def State.openWindow (s : State) (id : LetterId) : State :=
  { s with
    scan := if s.cfg.scanner then some (newScanRecord id) else s.scan,
    frontEnd := if s.cfg.scanner then s.frontEnd.seekQuiet else s.frontEnd }

/-- A window open for the letter is discarded (R47); the window of another letter stays. -/
def State.discardWindowOf (s : State) (id : LetterId) : State :=
  { s with
    scan := if s.windowIs id then none else s.scan,
    frontEnd := if s.windowIs id then s.frontEnd.closeCapture else s.frontEnd }

/-! ### The track table -/

/-- Places an entry after every entry whose reference position is at or before its own and before every entry whose
reference position is after its own (R55). -/
def placeEntry (e : Entry) : List Entry → List Entry
  | [] => [e]
  | x :: xs => if isAfter x.reference e.reference then e :: x :: xs else x :: placeEntry e xs

/-- Takes out the entry with the letter ID. -/
def withoutEntry (id : LetterId) (t : List Entry) : List Entry := t.filter (fun e => e.id != id)

/-- Takes an entry out and places it again (R55). -/
def State.replaceEntry (s : State) (e : Entry) : State :=
  { s with table := placeEntry e (withoutEntry e.id s.table) }

/-- The blockage record when an entry leaves the table (R56). -/
def blockageAfterRemoval (id : LetterId) : Blockage → Blockage
  | .blocked i a j => if i = id then .untracked (some id) a j else .blocked i a j
  | b => b

/-- An entry leaves the table with its points; a window open for it is discarded; a blockage record that names it turns
UNTRACKED (R56). -/
def State.removeEntry (s : State) (id : LetterId) : State :=
  { s.discardWindowOf id with table := withoutEntry id s.table, blockage := blockageAfterRemoval id s.blockage }

/-- The identity of a new entry (R59, R63, R80). -/
def Identity.unread : Identity :=
  { state := .unread, code := none, agree := 0, fail := 0, best := 0, firstReader := none }

/-- A counter moves (R188). -/
def State.count (s : State) (f : Counters → Counters) : State := { s with counters := f s.counters }

/-! ### Matching -/

/-- An account is held when some entry of the hold list equals it (R95). -/
def accountHeld (cfg : StationConfig) (a : Account) : Bool := cfg.holdList.any (fun x => x == a)

/-- A pocket rule matches an entry (R96). -/
def ruleMatches (cfg : StationConfig) (rule : PocketRule) (e : Entry) : Bool :=
  let code := e.identity.code.getD 0
  let settled := e.identity.state == .settled
  match rule.kind with
  | .off => false
  | .classRange =>
    settled && decide (rule.classLow ≤ codeClass code) && decide (codeClass code ≤ rule.classHigh) && !e.double
      && !(rule.excludeHeld && accountHeld cfg (codeAccount code))
  | .hold => settled && accountHeld cfg (codeAccount code) && !e.double
  | .noRead => (e.identity.state == .unread || e.identity.state == .failed) && !e.double
  | .suspect => e.identity.state == .conflict || e.double

/-! ### Release and re-judgement -/

/-- The letter's ARMED operation in the pocket is cancelled: it leaves the list, the drive is not touched (R137). -/
def State.cancelOp (s : State) (k : Fin 4) (id : LetterId) : State :=
  let p := s.pocket k
  s.setPocket k { p with ops := p.ops.eraseP (fun o => o.tiedTo id && o.state == .armed) }

/-- The claim becomes RELEASED_SELF, a RELEASE is queued unless the waiting CLAIM is withdrawn instead, and the released
counter rises (R112, R113). -/
def State.releaseClaim (s : State) (id : LetterId) (k : Fin 4) (reason : ReleaseReason) : State :=
  let t := s.modifyEntry id (fun e => { e with claim := .releasedSelf })
  let u := if t.claimWaits id then t.withdrawClaim id else t.enqueue (.release id k reason)
  u.count (fun c => { c with released := satInc c.released })

/-- Judges the entry again against its claimed pocket's rule, if it has an ARMED own operation (R110, R111). -/
def State.rejudge (s : State) (id : LetterId) : State :=
  match s.entry id, s.ownOp id with
  | some e, some (k, o) =>
    if o.state = .armed && !ruleMatches s.cfg (s.rule k) e then (s.releaseClaim id k .rejudged).cancelOp k id else s
  | _, _ => s

/-! ### Leaving the table -/

/-- The claims with which a retiring entry sends a RUNOUT at a tail station (R78). -/
def retiresUnclaimed (e : Entry) : Bool :=
  match e.claim with
  | .none => true
  | .peer _ _ => e.arrivedWhileClaimed
  | .releasedSelf => true
  | .own _ => false

/-- The RUNOUT of an entry: its identity state, and with SETTLED its code (R78, R93). -/
def runoutOf (e : Entry) : Frame :=
  .runout e.id e.identity.state (if e.identity.state = .settled then e.identity.code else none)

/-- A retiring entry is removed; a tail station queues its RUNOUT and counts it (R77, R78). -/
def State.retire (s : State) (e : Entry) : State :=
  let t := s.removeEntry e.id
  if s.cfg.tail && retiresUnclaimed e then
    (t.enqueue (runoutOf e)).count (fun c => { c with runouts := satInc c.runouts })
  else t

/-- The entry retires if it is PASSED, its retirement point is reached and it has no own operation (R77): used where the
point is set at or before the count, and where the last operation of a held entry ends. -/
def State.retireIfDue (s : State) (id : LetterId) : State :=
  match s.entry id with
  | some e =>
    if e.presence = .passed && pointReached s.tach.count e.retirement && (s.ownOp id).isNone then s.retire e else s
  | none => s

/-- A claim by a peer (R62, R74). -/
def Claim.isPeer : Claim → Bool
  | .peer _ _ => true
  | _ => false

/-- An expiring entry is removed; LOST is queued and counted unless its claim is PEER or LOST_HEARD is set (R74). -/
def State.expire (s : State) (e : Entry) : State :=
  let t := s.removeEntry e.id
  if e.claim.isPeer || e.lostHeard then t
  else (t.enqueue (.lost e.id)).count (fun c => { c with lost := satInc c.lost })

/-- The letter of an operation is placed elsewhere: LATE_CLAIM is set, or its entry has DIVERTED_HEARD set (R135, R136). -/
def State.placedElsewhere (s : State) (o : GateOp) : Bool :=
  o.lateClaim
    || (match s.entry o.id with
        | some e => e.divertedHeard
        | none => false)

/-- The operation leaves the pocket's list. -/
def State.dropOp (s : State) (k : Fin 4) (o : GateOp) : State :=
  s.setPocket k { s.pocket k with ops := (s.pocket k).ops.erase o }

/-- An operation misses and ends (R134): an ordinary miss releases the letter, counts the miss and leaves the entry to
retire (R135); that of a letter placed elsewhere removes the entry and sends nothing (R136). -/
def State.miss (s : State) (k : Fin 4) (o : GateOp) : State :=
  if s.placedElsewhere o then (s.dropOp k o).removeEntry o.id
  else (((s.releaseClaim o.id k .miss).countMiss k).dropOp k o).retireIfDue o.id

/-! ### Run states -/

/-- Every operation is dropped and the drive goes OFF (R138, R163). -/
def Pocket.dropOps (p : Pocket) : Pocket := { p with ops := [], drive := .off }

/-- Entering JAMMED, with the JAM frame of the cause if it calls for one, in the order of R179. -/
def State.enterJammed (s : State) (jam : Option JamReason) : State :=
  let t := { s with table := [], blockage := .none, pockets := s.pockets.map Pocket.dropOps }
  let u := t.discardWindow.purgeLetters
  let v :=
    match jam with
    | some r => u.enqueue (.jam r)
    | none => u
  { v with runState := .jammed, conditions := v.conditions.setTo .jammed true }

/-- Leaving JAMMED for RUNNING (R179). -/
def State.leaveJammed (s : State) : State :=
  { s with runState := .running, conditions := s.conditions.setTo .jammed false }

/-- Entering JOINING, from a load or a retain reset (R175): the line becomes active, the sampler starts (R18 to R20), the
JOIN is queued, the pocket states are formed from the input levels (R115). -/
def State.enterJoining (s : State) : State :=
  let t :=
    { s with
      runState := .joining,
      frontEnd := FrontEnd.atReset,
      line := { s.line with state := .waitFree, ackDriven := false, sending := [], queue := [] } }
  (t.enqueue (.join s.cfg.pocketCount s.cfg.crc)).formAllPockets

end Sys2Proof.Machine
end

