-- ==== Sys2Proof/Machine/Gate.lean ====
section
/-! DEFINITION. The gate drive (R124 to R129), confirms and strays (R130 to R133), the confirm close (R134), and the pocket
inputs (R115 to R119). -/

namespace Sys2Proof.Machine

/-- An ARMED operation whose fire point is reached (R125). -/
def opFires (count : Pos) (o : GateOp) : Bool := o.state == .armed && reachedAt count o.fire

/-- The drive after a firing (R125): from OFF a pull-in starts; a drive already on runs on. -/
def driveOnFire (pullIn : Word) : Drive → Drive
  | .off => .pulling pullIn
  | d => d

/-- The state of an operation that fires with this drive (R125). -/
def firedState : Drive → OpState
  | .holding _ _ => .hold
  | _ => .pullIn

/-- FIRE_POINT (R125). -/
def execFirePoint (k : Fin 4) (s : State) : Host.Outcome State Fault Refusal :=
  let p := s.pocket k
  if p.ops.any (opFires s.tach.count) then
    .next
      (s.setPocket k
        { p with
          ops := modifyFirst (opFires s.tach.count) (fun o => { o with state := firedState p.drive }) p.ops,
          drive := driveOnFire s.cfg.pullIn p.drive })
  else .next s

/-- PULL_IN_EXPIRY (R126): the pull-in timer stands at 0. -/
def execPullInExpiry (k : Fin 4) (s : State) : Host.Outcome State Fault Refusal :=
  let p := s.pocket k
  match p.drive with
  | .pulling timer =>
    if timer = 0 then
      .next
        (s.setPocket k
          { p with
            ops := p.ops.map (fun o => if o.state = .pullIn then { o with state := .hold } else o),
            drive := .holding true s.cfg.holdOn })
    else .next s
  | _ => .next s

/-- CHOP_PART_EXPIRY (R127): the part of the chop that runs has no time left, and the other part begins. -/
def execChopPartExpiry (k : Fin 4) (s : State) : Host.Outcome State Fault Refusal :=
  let p := s.pocket k
  match p.drive with
  | .holding on left =>
    if left = 0 then
      .next (s.setPocket k { p with drive := .holding (!on) (if on then s.cfg.holdOff else s.cfg.holdOn) })
    else .next s
  | _ => .next s

/-- An active operation whose release point is reached (R128). -/
def opReleases (count : Pos) (o : GateOp) : Bool := o.active && pointReached count o.release

/-- The list of a pocket after the release of an operation (R128): it ends if confirmed, and otherwise becomes TRAILING. -/
def releasedOps (count : Pos) (o : GateOp) (ops : List GateOp) : List GateOp :=
  if o.confirmed then ops.eraseP (opReleases count)
  else modifyFirst (opReleases count) (fun x => { x with state := .trailing }) ops

/-- RELEASE_POINT (R128); with CONF_EXT of 0 the close is taken in the same event (R129). -/
def execReleasePoint (k : Fin 4) (s : State) : Host.Outcome State Fault Refusal :=
  let p := s.pocket k
  match p.ops.find? (opReleases s.tach.count) with
  | none => .next s
  | some o =>
    let ops := releasedOps s.tach.count o p.ops
    let t := s.setPocket k { p with ops := ops, drive := driveAfter ops p.drive }
    if o.confirmed = false ∧ o.confirmClose = o.release then .next (t.miss k { o with state := .trailing }) else .next t

/-- A TRAILING operation whose confirm close is reached without a confirm (R134). -/
def opMisses (count : Pos) (o : GateOp) : Bool :=
  o.state == .trailing && !o.confirmed && pointReached count o.confirmClose

/-- CONFIRM_CLOSE (R134). -/
def execConfirmClose (k : Fin 4) (s : State) : Host.Outcome State Fault Refusal :=
  match (s.pocket k).ops.find? (opMisses s.tach.count) with
  | some o => .next (s.miss k o)
  | none => .next s

/-- The inputs of a pocket are taken in JOINING, RUNNING and JAMMED, unless the pocket is OFF (R115). -/
def State.inputsTaken (s : State) (k : Fin 4) : Bool := s.joined && (s.pocket k).state != .off

/-- An operation that an entry edge can confirm (R130): fired and not confirmed. -/
def GateOp.eligible (o : GateOp) : Bool := o.fired && !o.confirmed

/-- The list of a pocket after a confirm (R131): a TRAILING operation ends, any other stays CONFIRMED. -/
def confirmedOps (o : GateOp) (ops : List GateOp) : List GateOp :=
  if o.state = .trailing then ops.eraseP GateOp.eligible
  else modifyFirst GateOp.eligible (fun x => { x with confirmed := true }) ops

/-- A confirm of an operation (R131), the edge counted already. -/
def State.confirm (s : State) (k : Fin 4) (o : GateOp) : State :=
  let p := s.pocket k
  let t := s.setPocket k { p with ops := confirmedOps o p.ops, missCount := 0 }
  ((t.enqueue (.diverted o.id k p.tally)).count (fun c => { c with diverted := satInc c.diverted })).removeEntry o.id

/-- PENTRY_EDGE (R116, R130 to R132): the tally counts, then the first eligible operation is confirmed, or the edge is a
stray. -/
def execPentryEdge (k : Fin 4) (s : State) : Host.Outcome State Fault Refusal :=
  if s.inputsTaken k then
    let p := s.pocket k
    let t := (s.setPocket k { p with tally := satInc p.tally }).formPocket k
    match p.ops.find? GateOp.eligible with
    | some o => .next (t.confirm k o)
    | none => .next (t.latch .divertAnomaly)
  else .next s

/-- PFULL_CHANGE (R115, R117): the level changes in every run state; the state is formed anew where the input is taken. -/
def execPfullChange (k : Fin 4) (active : Bool) (s : State) : Host.Outcome State Fault Refusal :=
  if s.pins.pfull.get k = active then .next s
  else
    let t := { s with pins := { s.pins with pfull := s.pins.pfull.set k active } }
    if s.inputsTaken k then .next (t.formPocket k) else .next t

/-- One ARMED operation of a swapped pocket is cancelled and its letter released (R118). -/
def State.swapCancel (s : State) (k : Fin 4) (o : GateOp) : State :=
  if o.state = .armed then (s.releaseClaim o.id k .swap).cancelOp k o.id else s

/-- PSWAP_ACTIVE (R115, R118): the pocket becomes OUT, its ARMED operations are cancelled in list order. -/
def execPswapActive (k : Fin 4) (s : State) : Host.Outcome State Fault Refusal :=
  if s.pins.pswap.get k then .next s
  else
    let t := { s with pins := { s.pins with pswap := s.pins.pswap.set k true } }
    if s.inputsTaken k then .next ((s.pocket k).ops.foldl (fun u o => u.swapCancel k o) (t.formPocket k)) else .next t

/-- PSWAP_INACTIVE (R115, R119): tally and miss count become 0, the fault flag clear, the state is formed anew. -/
def execPswapInactive (k : Fin 4) (s : State) : Host.Outcome State Fault Refusal :=
  if s.pins.pswap.get k then
    let t := { s with pins := { s.pins with pswap := s.pins.pswap.set k false } }
    if s.inputsTaken k then
      .next ((t.setPocket k { t.pocket k with tally := 0, missCount := 0, fault := false }).formPocket k)
    else .next t
  else .next s

end Sys2Proof.Machine
end

