-- ==== Sys2Proof/Machine/LineEvents.lean ====
section
/-! DEFINITION. The track line's events at this station as sender and as listener (R139 to R151, R156, R160). -/

namespace Sys2Proof.Machine

/-- BUS_FREE (R141): the line is free, and an attempt starts if the queue holds a frame (R147). -/
def execBusFree (s : State) : Host.Outcome State Fault Refusal :=
  if s.line.state = .waitFree then
    let w := startAttempt s ({ s.line with state := .free, ackDriven := false }, s.conditions)
    .next { s with line := w.1, conditions := w.2 }
  else .next s

/-- A falling edge is accepted as a start of frame after at least 11 cell times of high, outside a frame (R141). -/
def startAccepted (l : Line) (highCells : Nat) : Bool :=
  match l.state with
  | .free => true
  | .waitFree => decide (11 ≤ highCells)
  | .inactive => false
  | .inFrame _ => false

/-- START_OF_FRAME (R141, R142): another station's edge; SOF_tach is latched and the station follows as a receiver (R160). -/
def execStartOfFrame (highCells : Nat) (s : State) : Host.Outcome State Fault Refusal :=
  if startAccepted s.line highCells then
    .next
      { s with line := { s.line with state := .inFrame .receiver, sofTach := s.tach.count, ackDriven := false } }
  else .next s

/-- ARBITRATION_LOST (R148): the sender becomes a receiver of the frame under way. -/
def execArbitrationLost (s : State) : Host.Outcome State Fault Refusal :=
  if s.line.state = .inFrame .sender then
    .next { s with line := { s.line with state := .inFrame .receiver, sending := [] } }.loseArbitration
  else .next s

/-- BIT_ERROR (R149): the sender stops, neither sending nor receiving, and the attempt counts (R151). -/
def execBitError (s : State) : Host.Outcome State Fault Refusal :=
  if s.line.state = .inFrame .sender then
    .next { s with line := { s.line with state := .waitFree, sending := [] } }.failAttempt
  else .next s

/-- ATTEMPT_END (R150, R151): the acknowledge cell of the attempt is read. -/
def execAttemptEnd (acked : Bool) (s : State) : Host.Outcome State Fault Refusal :=
  if s.line.state = .inFrame .sender then
    let t := { s with line := { s.line with state := .waitFree, sending := [] } }
    if acked then .next t.ackAttempt else .next t.failAttempt
  else .next s

/-- A queued SIGHT whose stale point is reached and has not been taken (R156). -/
def staleDue (count : Pos) (q : QueuedFrame) : Bool := pointReached count q.stalePoint && !q.staleReached

/-- SIGHT_STALE_POINT (R156): a SIGHT not in flight is discarded; the one in flight is marked, and its attempt goes on. -/
def execSightStalePoint (s : State) : Host.Outcome State Fault Refusal :=
  match s.line.queue.find? (staleDue s.tach.count) with
  | none => .next s
  | some q =>
    if q.inFlight then
      .next
        { s with
          line :=
            { s.line with
              queue := modifyFirst (staleDue s.tach.count) (fun x => { x with staleReached := true }) s.line.queue } }
    else
      let w :=
        countDiscard ({ s.line with queue := s.line.queue.eraseP (staleDue s.tach.count) }, s.conditions)
      .next { s with line := w.1, conditions := w.2 }

/-- The station is a receiver of the frame under way (R160). -/
def State.receiving (s : State) : Bool := s.line.state == .inFrame .receiver

/-- An attempt of the station is on the line (R147, R160). -/
def State.sending (s : State) : Bool := s.line.state == .inFrame .sender

/-- BROKEN_FRAME (R146): neither acknowledged nor dispatched; the receiver waits for bus free. Cells that R146 does not find
broken are no broken frame. -/
def execBrokenFrame (cells : List Bool) (s : State) : Host.Outcome State Fault Refusal :=
  match judgeCells cells with
  | .broken _ => if s.receiving then .next { s with line := { s.line with state := .waitFree } } else .next s
  | _ => .next s

end Sys2Proof.Machine
end

