-- ==== Sys2Proof/Machine/Identity.lean ====
section
/-! DEFINITION. Letter identity: applying reads (R81 to R84), own reads and the read-rate window (R85 to R92), and the close
of a scan window with a read (R46). -/

namespace Sys2Proof.Machine

/-- A good read with a code, a quality and a reader (R82). -/
def Identity.applyGood (i : Identity) (code : Code) (quality : BitVec 4) (reader : Station) : Identity :=
  match i.state with
  | .unread =>
    { state := .settled, code := some code, agree := 1, fail := 0, best := quality, firstReader := some reader }
  | .failed =>
    { state := .settled, code := some code, agree := 1, fail := i.fail, best := quality, firstReader := some reader }
  | .settled =>
    if i.code = some code then { i with agree := satInc i.agree, best := if i.best ≤ quality then quality else i.best }
    else { i with state := .conflict }
  | .conflict => i

/-- A failed read (R83). -/
def Identity.applyFailed (i : Identity) : Identity :=
  match i.state with
  | .unread => { i with state := .failed, fail := 1 }
  | .failed => { i with fail := satInc i.fail }
  | .settled => { i with fail := satInc i.fail }
  | .conflict => { i with fail := satInc i.fail }

/-- Applies a read to the entry with the letter ID, and tells the Sort Unit when the identity's state changes (R81, R84). -/
def State.applyRead (s : State) (id : LetterId) (f : Identity → Identity) : State :=
  match s.entry id with
  | none => s
  | some e =>
    let t := s.modifyEntry id (fun x => { x with identity := f x.identity })
    if (f e.identity).state = e.identity.state then t else t.rejudge id

/-- An outcome enters the read-rate window; the oldest leaves a full one (R90). -/
def enterOutcome (o : ReadOutcome) (w : List ReadOutcome) : List ReadOutcome :=
  if w.length < maxWindow then w ++ [o] else w.drop 1 ++ [o]

/-- READ_RATE_LOW from the window and the threshold; a threshold of 0 disables it (R91). -/
def readRateLow (threshold : Nat) (w : List ReadOutcome) : Bool :=
  decide (threshold ≠ 0) && decide (threshold ≤ w.count .failed)

/-- Steps 3 and 4 of R85: the outcome's counter rises (R92), it enters the window, READ_RATE_LOW is formed anew. -/
def State.countRead (s : State) (o : ReadOutcome) : State :=
  let w := enterOutcome o s.readWindow
  let t :=
    s.count (fun c =>
      match o with
      | .good => { c with goodReads := satInc c.goodReads }
      | .failed => { c with failedReads := satInc c.failedReads })
  { t with readWindow := w, conditions := t.conditions.setTo .readRateLow (readRateLow s.cfg.readRateThreshold w) }

/-- The outcome of a verdict (R90). -/
def verdictOutcome : Verdict → ReadOutcome
  | .good _ _ _ _ _ => .good
  | .failed _ => .failed

/-- What a verdict does to an identity, read by this reader (R81). -/
def verdictRead (reader : Station) : Verdict → Identity → Identity
  | .good code _ _ q _, i => i.applyGood code q reader
  | .failed _, i => i.applyFailed

/-- The Tracker takes an own read record, in the order of R85. -/
def State.ownRead (s : State) (r : ReadRecord) : State :=
  ((s.applyRead r.id (verdictRead s.straps.station r.verdict)).enqueue (.read r)).countRead (verdictOutcome r.verdict)

/-- Closes an open window with a read record (R46, R52): the record is formed and handed over, the scan record deleted, and
the front end is CLOSED (R22). -/
def State.closeWindow (s : State) : State :=
  match s.scan with
  | none => s
  | some r => (s.ownRead (formReadRecord s.cfg.voteMin r)).discardWindow

end Sys2Proof.Machine
end

