-- ==== Sys2Proof/Machine/Photocell.lean ====
section
/-! DEFINITION. The photocell and the Letter Tracker's points (R60 to R74, R77). -/

namespace Sys2Proof.Machine

/-- An EXPECTED entry whose arrival window [E - TOL, E + TOL] contains the count (R61). -/
def arrivalCandidate (tol : Word) (count : Pos) (e : Entry) : Bool :=
  match e.expectedAt with
  | some x => e.presence == .expected && inWindow (x - tol) (x + tol) count
  | none => false

/-- A matched entry (R62), with its decision point if it is not decided (R100, step 5 of R65). -/
def matchedEntry (count : Pos) (distance : Word) (e : Entry) : Entry :=
  { e with
    presence := .present, arrival := some count, expiry := none,
    claim := if e.claim.isPeer then .none else e.claim,
    arrivedWhileClaimed := e.arrivedWhileClaimed || e.claim.isPeer,
    decisionPoint := if e.decided then none else some (count + distance) }

/-- The first sequence number, counting up from s, that no entry of the station carries (R63); the search is given as many
tries as it can need. -/
def freeSequence (table : List Entry) (station : Station) : Nat → BitVec 12 → Option (BitVec 12)
  | 0, _ => none
  | n + 1, s =>
    if table.any (fun e => e.id == { origin := station, seq := s }) then freeSequence table station n (s + 1) else some s

/-- The entry of an orphan (R63), with its decision point (R100). -/
def orphanEntry (id : LetterId) (count : Pos) (distance : Word) : Entry :=
  { id := id, origin := .own, presence := .present, expectedAt := none, arrival := some count, trailing := none,
    length := none, double := false, arrivedWhileClaimed := false, divertedHeard := false, lostHeard := false,
    identity := Identity.unread, claim := .none, decided := false, expiry := none, retirement := none,
    decisionPoint := some (count + distance) }

/-- An arrived letter's blockage and scan window, steps 3 and 4 of R65. -/
def State.arrived (s : State) (id : LetterId) : State :=
  let a := s.tach.count
  { s with blockage := .blocked id a (a + s.cfg.jamLen) }.openWindow id

/-- A leading edge that leaves its letter untracked (R64); the jam point is set all the same (R65). -/
def State.untrackedArrival (s : State) : State :=
  let a := s.tach.count
  { s with blockage := .untracked none a (a + s.cfg.jamLen) }

/-- A leading edge that matches no entry: an orphan (R63), or untracked with TABLE_FULL at a full table (R64). -/
def State.orphanArrival (s : State) : State :=
  if s.table.length < maxEntries then
    match freeSequence s.table s.straps.station (s.table.length + 1) s.sequence with
    | some q =>
      let id : LetterId := { origin := s.straps.station, seq := q }
      { s with
        sequence := q + 1,
        table := placeEntry (orphanEntry id s.tach.count s.cfg.decideDist) s.table }.arrived id
    | none => s.untrackedArrival
  else (s.latch .tableFull).untrackedArrival

/-- A leading edge taken in RUNNING, in the order of R65: an open window is closed with its read, the edge is matched, the
letter's window opened and its points set. -/
def State.leadingEdge (s : State) : State :=
  let t := s.closeWindow
  match t.table.find? (arrivalCandidate t.cfg.tol t.tach.count) with
  | some e => (t.replaceEntry (matchedEntry t.tach.count t.cfg.decideDist e)).arrived e.id
  | none => t.orphanArrival

/-- PCELL_LEADING_EDGE (R60, R65): the level changes in every run state, the edge is taken in RUNNING. -/
def execPcellLeadingEdge (s : State) : Host.Outcome State Fault Refusal :=
  if s.pins.pcellBlocked then .next s
  else
    let t := { s with pins := { s.pins with pcellBlocked := true } }
    if s.runState = .running then .next t.leadingEdge else .next t

/-- The release point and confirm close of an operation from the trailing position (R123). -/
def GateOp.released (o : GateOp) (trailing gate relMargin confExt : Word) : GateOp :=
  { o with
    release := some (trailing + gate + relMargin),
    confirmClose := some (trailing + gate + relMargin + confExt) }

/-- The Gate Controller is given a letter's trailing position for its operations (R123); points once set do not move. -/
def State.giveTrailing (s : State) (id : LetterId) (trailing : Pos) : State :=
  let give (k : Fin 4) : Pocket :=
    let p := s.pocket k
    { p with
      ops :=
        p.ops.map (fun o =>
          if o.id = id ∧ o.release = none then o.released trailing (s.rule k).gate s.cfg.relMargin s.cfg.confExt else o) }
  { s with pockets := ⟨give 0, give 1, give 2, give 3⟩ }

/-- A fragment's UPSTREAM entry is EXPECTED again (R67). -/
def revertedEntry (tol : Word) (e : Entry) : Entry :=
  { e with
    presence := .expected, arrival := none, decisionPoint := none,
    expiry := e.expectedAt.map (fun x => x + tol + 1) }

/-- A fragment (R67, R68): an UPSTREAM entry reverts, and expires within the event if its window is past; an OWN entry is
removed. -/
def State.fragment (s : State) (e : Entry) : State :=
  match e.origin with
  | .own => s.removeEntry e.id
  | .upstream =>
    let r := revertedEntry s.cfg.tol e
    let t := (s.discardWindowOf e.id).replaceEntry r
    if pointReached s.tach.count r.expiry then t.expire r else t

/-- A letter's entry at its trailing edge (R70). -/
def passedEntry (count : Pos) (length lenMax retire : Word) (e : Entry) : Entry :=
  { e with
    presence := .passed, trailing := some count, length := some length, double := decide (lenMax < length),
    retirement := some (count + retire) }

/-- Step 4 of R71: the close point of the letter's window is set, and reached at once if it is not ahead (R43). -/
def State.setClosePoint (s : State) (id : LetterId) : State :=
  match s.scan with
  | some r =>
    if r.id = id then
      let x := s.tach.count + s.cfg.scanTail
      let t := { s with scan := some { r with closePoint := some x } }
      if reachedAt s.tach.count x then t.closeWindow else t
    else s
  | none => s

/-- Step 1 of R71: an OWN entry's SIGHT is queued and counted (R73). -/
def State.queueSight (s : State) (e : Entry) (arrival : Pos) (length : Word) : State :=
  if e.origin = .own then
    (s.enqueue (.sight e.id arrival length)).count (fun c => { c with sightings := satInc c.sightings })
  else s

/-- A trailing edge that is not a fragment, R70 and then R71 in its order; a retirement point that is not ahead is reached
at the end of the event (R5, log 9). -/
def State.letterPassed (s : State) (e : Entry) (arrival : Pos) (length : Word) : State :=
  let p := passedEntry s.tach.count length s.cfg.lenMax s.cfg.retire e
  let t := (s.modifyEntry e.id (passedEntry s.tach.count length s.cfg.lenMax s.cfg.retire)).queueSight e arrival length
  let u := t.giveTrailing e.id s.tach.count
  let v := if p.double = e.double then u else u.rejudge e.id
  (v.setClosePoint e.id).retireIfDue e.id

/-- A trailing edge of a blockage below LEN_MIN (R66, R69): a fragment, unless the entry's own operation has fired; an ARMED
one is cancelled and the letter released first. -/
def State.shortBlockage (s : State) (e : Entry) (arrival : Pos) (length : Word) : State :=
  match e.claim, s.ownOp e.id with
  | .own k, some (_, o) =>
    if o.state = .armed then
      let t := (s.releaseClaim e.id k .rejudged).cancelOp k e.id
      t.fragment { e with claim := .releasedSelf }
    else s.letterPassed e arrival length
  | _, _ => s.fragment e

/-- The trailing edge of a taken blockage (R66); the blockage record is NONE from here. -/
def State.trailingEdge (s : State) : State :=
  let t := { s with blockage := .none }
  match s.blockage with
  | .none => t
  | .untracked none _ _ => t
  | .untracked (some id) _ _ => t.giveTrailing id s.tach.count
  | .blocked id a _ =>
    match s.entry id with
    | none => t
    | some e =>
      let length := s.tach.count - a
      if length < s.cfg.lenMin then t.shortBlockage e a length else t.letterPassed e a length

/-- PCELL_TRAILING_EDGE (R60, R66). -/
def execPcellTrailingEdge (s : State) : Host.Outcome State Fault Refusal :=
  if s.pins.pcellBlocked then
    let t := { s with pins := { s.pins with pcellBlocked := false } }
    if s.runState = .running then .next t.trailingEdge else .next t
  else .next s

/-- The jam point of the blockage record (section 4.3). -/
def Blockage.jamAt : Blockage → Option Pos
  | .none => Option.none
  | .blocked _ _ j => some j
  | .untracked _ _ j => some j

/-- JAM_POINT (R72): reached in RUNNING with PCELL still blocked, it takes the station into JAMMED. -/
def execJamPoint (s : State) : Host.Outcome State Fault Refusal :=
  if s.runState = .running ∧ s.pins.pcellBlocked = true ∧ pointReached s.tach.count s.blockage.jamAt = true then
    .next (s.enterJammed (some .ownPhotocell))
  else .next s

/-- The Tracker's next point, in table order (R55): an EXPECTED entry's expiry, or a PASSED entry's retirement that is not
held by an own operation (R77). -/
def State.trackerPoint (s : State) : Option Entry :=
  s.table.find? (fun e =>
    (e.presence == .expected && pointReached s.tach.count e.expiry)
      || (e.presence == .passed && pointReached s.tach.count e.retirement && (s.ownOp e.id).isNone))

/-- EXPIRY_POINT (R74). -/
def execExpiryPoint (s : State) : Host.Outcome State Fault Refusal :=
  match s.trackerPoint with
  | some e => if s.runState = .running ∧ e.presence = .expected then .next (s.expire e) else .next s
  | none => .next s

/-- RETIREMENT_POINT (R77): an entry with an own operation is held, which leaves the state as it is. -/
def execRetirementPoint (s : State) : Host.Outcome State Fault Refusal :=
  match s.trackerPoint with
  | some e => if s.runState = .running ∧ e.presence = .passed then .next (s.retire e) else .next s
  | none => .next s

end Sys2Proof.Machine
end

