-- ==== Sys2Proof/Machine/Received.lean ====
section
/-! DEFINITION. Received frames: acknowledge (R150), the tests of R161, dispatch (R162), and what the owning blocks do. -/

namespace Sys2Proof.Machine

/-- A well-formed frame carries the receiver's own station number (R161). -/
def State.ownNumber (s : State) (h : Header) : Bool := h.station == s.straps.station

/-- A well-formed frame carries the receiver's own position (R161). -/
def State.ownPosition (s : State) (h : Header) : Bool := h.position == s.cfg.position

/-- The station drives the acknowledge cell (R150); after it the line waits for bus free. -/
def State.acknowledge (s : State) : State :=
  { s with line := { s.line with state := .waitFree, ackDriven := true } }

/-- The tests of R161 latch DUP_STATION and POSITION_CLASH. -/
def State.testSender (s : State) (h : Header) : State :=
  let c := if s.ownNumber h then s.conditions.latch .dupStation else s.conditions
  { s with conditions := if s.ownPosition h then c.latch .positionClash else c }

/-- A well-formed frame is received (R150, R160, R161): acknowledged, tested, and, if it meets neither test, dispatched to
its owner. A station that is not receiving takes no frame, but as State.receiveOrHandOn gives. -/
def State.receive (s : State) (h : Header) (owner : State → State) : State :=
  if s.receiving then
    let t := s.acknowledge.testSender h
    if s.ownNumber h || s.ownPosition h then t else owner t
  else s

/-- A received frame at its owning block, which takes it as one event of its own (R160), also while an attempt of this station
is on the line: so a CLAIM (R107, R157, section 8.8), a DIVERTED (R76, R157), a POLL (R155, section 8.8) and a READ (R113,
R157). The attempt goes on: nothing is acknowledged and the line is not touched. DEDUCED (log 28): the frame was acknowledged
and tested before, so one that meets a test of R161 is not handed on. -/
def State.receiveOrHandOn (s : State) (h : Header) (owner : State → State) : State :=
  if s.sending then (if s.ownNumber h || s.ownPosition h then s else owner s) else s.receive h owner

/-- The letter frames act in RUNNING and from upstream senders (R57, R75, R76, R87, R106, R109). -/
def State.takesFrom (s : State) (h : Header) : Bool := s.runState == .running && s.upstream h

/-- The Supervisor takes a JAM (R178): in RUNNING it enters JAMMED without a frame. -/
def State.takeJam (s : State) : State := if s.runState = .running then s.enterJammed none else s

/-- JAM_RECEIVED (R178): from any sender, of any reason. -/
def execJamReceived (h : Header) (_reason : Byte) (s : State) : Host.Outcome State Fault Refusal :=
  .next (s.receiveOrHandOn h State.takeJam)

/-- The Supervisor takes a CLEAR (R182), testing the levels at that moment. -/
def State.takeClear (s : State) : State :=
  if s.runState = .jammed then
    if s.pins.pcellBlocked then s.enqueue (.jam .clearRefused)
    else if s.pins.stopHigh then s.leaveJammed
    else s.enqueue (.jam .stop)
  else s

/-- CLEAR_RECEIVED (R182). -/
def execClearReceived (h : Header) (s : State) : Host.Outcome State Fault Refusal := .next (s.receiveOrHandOn h State.takeClear)

/-- An upstream claim of an entry of this station's own claim (R107, R108): an ARMED operation gives way to it; one that has
fired is marked LATE_CLAIM and DIVERT_ANOMALY latched. -/
def State.claimAgainstOwn (s : State) (id : LetterId) (station : Station) (pocket : Byte) : State :=
  match s.ownOp id with
  | none => s
  | some (k, o) =>
    if o.state = .armed then
      ((s.cancelOp k id).modifyEntry id (fun x => { x with claim := .peer station pocket })).withdrawClaim id
    else
      let p := s.pocket k
      (s.setPocket k { p with ops := modifyFirst (GateOp.tiedTo id) (fun x => { x with lateClaim := true }) p.ops }).latch
        .divertAnomaly

/-- The Sort Unit takes a CLAIM (R106). -/
def State.takeClaim (s : State) (h : Header) (id : LetterId) (pocket : Byte) : State :=
  if s.takesFrom h then
    match s.entry id with
    | none => s
    | some e =>
      match e.claim with
      | .none => s.modifyEntry id (fun x => { x with claim := .peer h.station pocket })
      | .own _ => s.claimAgainstOwn id h.station pocket
      | .peer _ _ => s
      | .releasedSelf => s
  else s

/-- CLAIM_RECEIVED (R106 to R108). -/
def execClaimReceived (h : Header) (id : LetterId) (pocket : Byte) (s : State) : Host.Outcome State Fault Refusal :=
  .next (s.receiveOrHandOn h (fun t => t.takeClaim h id pocket))

/-- The Sort Unit takes a RELEASE (R109): it acts when the claim is the sender's, for the pocket recorded. -/
def State.takeRelease (s : State) (h : Header) (id : LetterId) (pocket : Byte) : State :=
  if s.takesFrom h then
    match s.entry id with
    | none => s
    | some e =>
      if e.claim = .peer h.station pocket then s.modifyEntry id (fun x => { x with claim := .none }) else s
  else s

/-- RELEASE_RECEIVED (R109); the reason does not act. -/
def execReleaseReceived (h : Header) (id : LetterId) (pocket : Byte) (_reason : Byte) (s : State) :
    Host.Outcome State Fault Refusal :=
  .next (s.receiveOrHandOn h (fun t => t.takeRelease h id pocket))

/-- The Letter Tracker and the Gate Controller take a DIVERTED (R76). -/
def State.takeDiverted (s : State) (h : Header) (id : LetterId) : State :=
  if s.takesFrom h then
    match s.entry id with
    | none => s
    | some _ =>
      match s.ownOp id with
      | none => (s.withdrawClaim id).removeEntry id
      | some (k, o) =>
        if o.state = .armed then ((s.cancelOp k id).withdrawClaim id).removeEntry id
        else (s.modifyEntry id (fun x => { x with divertedHeard := true })).latch .divertAnomaly
  else s

/-- DIVERTED_RECEIVED (R76); pocket and tally do not act. -/
def execDivertedReceived (h : Header) (id : LetterId) (_pocket : Byte) (_tally : Word) (s : State) :
    Host.Outcome State Fault Refusal :=
  .next (s.receiveOrHandOn h (fun t => t.takeDiverted h id))

/-- The expected position of a SIGHT (R57). -/
def State.expectedPosition (s : State) (h : Header) (age : Word) : Pos :=
  s.line.sofTach - age + (s.cfg.position.setWidth 16 - h.position.setWidth 16)

/-- The entry a SIGHT creates (R59). -/
def sightEntry (id : LetterId) (e : Pos) (length tol lenMax : Word) : Entry :=
  { id := id, origin := .upstream, presence := .expected, expectedAt := some e, arrival := none, trailing := none,
    length := some length, double := decide (lenMax < length), arrivedWhileClaimed := false, divertedHeard := false,
    lostHeard := false, identity := Identity.unread, claim := .none, decided := false, expiry := some (e + tol + 1),
    retirement := none, decisionPoint := none }

/-- The Letter Tracker takes a SIGHT (R57 to R59); one whose age exceeds 16383 is ignored (R162). -/
def State.takeSight (s : State) (h : Header) (id : LetterId) (age length : Word) : State :=
  if s.takesFrom h = true ∧ age.toNat ≤ 16383 then
    let e := s.expectedPosition h age
    if (s.entry id).isSome then s
    else if isAfter (e + s.cfg.tol) s.tach.count = false then s.count (fun c => { c with lost := satInc c.lost })
    else if s.table.length < maxEntries then
      { s with table := placeEntry (sightEntry id e length s.cfg.tol s.cfg.lenMax) s.table }
    else s.latch .tableFull
  else s

/-- SIGHT_RECEIVED (R57 to R59), at a receiver only: the start of frame of an own attempt replaces the SOF_tach that E is formed
from (R142, log 28). -/
def execSightReceived (h : Header) (id : LetterId) (age length : Word) (s : State) : Host.Outcome State Fault Refusal :=
  .next (s.receive h (fun t => t.takeSight h id age length))

/-- The quality of a received good read, bounded to 15 (R89). -/
def boundedQuality (q : Byte) : BitVec 4 := BitVec.ofNat 4 (min 15 q.toNat)

/-- What a received READ does to an identity, if it passes the tests of R89. -/
def receivedRead (reader : Station) (outcome quality : Byte) (code : Option Code) : Option (Identity → Identity) :=
  match (outcome.extractLsb' 6 2).toNat, code with
  | 1, some c => if checkDigitPasses c then some (fun i => i.applyGood c (boundedQuality quality) reader) else none
  | 2, none => some Identity.applyFailed
  | _, _ => none

/-- The Letter Tracker takes a READ (R87 to R89). -/
def State.takeRead (s : State) (h : Header) (id : LetterId) (outcome quality : Byte) (code : Option Code) : State :=
  if s.takesFrom h then
    match receivedRead h.station outcome quality code with
    | some f => s.applyRead id f
    | none => s
  else s

/-- READ_RECEIVED (R87 to R89); sweeps do not act. -/
def execReadReceived (h : Header) (id : LetterId) (outcome quality _sweeps : Byte) (code : Option Code) (s : State) :
    Host.Outcome State Fault Refusal :=
  .next (s.receiveOrHandOn h (fun t => t.takeRead h id outcome quality code))

/-- The Letter Tracker takes a LOST (R75): an EXPECTED entry is removed, an arrived one marked. -/
def State.takeLost (s : State) (h : Header) (id : LetterId) : State :=
  if s.takesFrom h then
    match s.entry id with
    | none => s
    | some e =>
      if e.presence = .expected then s.removeEntry id else s.modifyEntry id (fun x => { x with lostHeard := true })
  else s

/-- LOST_RECEIVED (R75). -/
def execLostReceived (h : Header) (id : LetterId) (s : State) : Host.Outcome State Fault Refusal :=
  .next (s.receiveOrHandOn h (fun t => t.takeLost h id))

/-- The Supervisor takes a POLL (R186): one aimed at this station or at all queues a STATUS. -/
def State.takePoll (s : State) (target : Byte) : State :=
  if s.joined = true ∧ (target = s.straps.station.setWidth 8 ∨ target = 0xFF) then s.enqueue .status else s

/-- POLL_RECEIVED (R186); a STATUS in flight is replaced as R155 gives. -/
def execPollReceived (h : Header) (target : Byte) (s : State) : Host.Outcome State Fault Refusal :=
  .next (s.receiveOrHandOn h (fun t => t.takePoll target))

/-- JOIN_RECEIVED (R177): acknowledged and tested; the Supervisor takes nothing more from it. -/
def execJoinReceived (h : Header) (_pockets : Byte) (_crc : Word) (s : State) : Host.Outcome State Fault Refusal :=
  .next (s.receive h id)

/-- IGNORED_FRAME_RECEIVED (R162): acknowledged and tested, and its content ignored. A kind and body that have an owner are
no ignored frame. -/
def execIgnoredFrameReceived (h : Header) (kind : BitVec 4) (body : List Byte) (s : State) :
    Host.Outcome State Fault Refusal :=
  if frameIgnored kind h body then .next (s.receive h id) else .next s

end Sys2Proof.Machine
end

