-- ==== Sys2Proof/Machine/Scanner.lean ====
section
/-! DEFINITION. The Scan Front End: sampling and the noise filter (R16 to R19), capture of runs (R20 to R28), sweeps (R29).
The four sample rows are the four things a sample can do; each takes effect when the sample it brings does that thing in
the present state, so exactly one of them does (log 4). -/

namespace Sys2Proof.Machine

/-- The width of the current element: every sample since its dated start, pending ones included (R19, log 8). -/
def FrontEnd.measured (f : FrontEnd) : Nat := min 65535 (f.width.toNat + f.pending)

/-- The quiet width (R24): samples of the current space since the later of its dated start and the search's entry. -/
def FrontEnd.quietWidth (f : FrontEnd) : Nat :=
  if f.accepted = .space then min f.measured f.searchSamples.toNat else 0

/-- What a sample does, by which its row is known. -/
inductive SampleEffect where
  | plain
  | accepted
  | quietSeen
  | runEnd (run : List Word)
  deriving DecidableEq, Repr

/-- The noise filter and the element width at one sample (R18, R19): the front end after it, and the ended element's width
when the level is accepted. -/
def filterSample (nf : Nat) (level : Level) (f : FrontEnd) : FrontEnd × Option Word :=
  let g := { f with searchSamples := satInc f.searchSamples }
  if level = g.accepted then ({ g with pending := 0, width := satAdd g.width (g.pending + 1) }, none)
  else if g.pending + 1 < nf then ({ g with pending := g.pending + 1 }, none)
  else ({ g with accepted := level, pending := 0, width := BitVec.ofNat 16 nf }, some g.width)

/-- What an accepted change of level does to the capture (R23, R25, R26, R28). -/
def captureAccepted (nf : Nat) (ended : Word) (f : FrontEnd) : FrontEnd :=
  match f.capture with
  | .closed => f
  | .seekingQuiet =>
    if f.accepted = .bar ∧ f.quietSeen = true then { f with capture := .inRun, quietSeen := false, runBuffer := [] } else f
  | .inRun =>
    if f.runBuffer.length < maxRun then { f with runBuffer := f.runBuffer ++ [ended] }
    else
      { f with
        capture := .seekingQuiet, quietSeen := false, runBuffer := [], searchSamples := BitVec.ofNat 16 nf }

/-- One sample of the front end (R18 to R28): the front end after it and what the sample did. -/
def sampleStep (nf quiet : Nat) (level : Level) (f : FrontEnd) : FrontEnd × SampleEffect :=
  match filterSample nf level f with
  | (g, some ended) => (captureAccepted nf ended g, .accepted)
  | (g, none) =>
    if g.capture = .seekingQuiet ∧ g.quietSeen = false ∧ g.accepted = .space ∧ quiet ≤ g.quietWidth then
      ({ g with quietSeen := true }, .quietSeen)
    else if g.capture = .inRun ∧ g.accepted = .space ∧ quiet ≤ g.measured then
      ({ g with capture := .seekingQuiet, quietSeen := true, runBuffer := [] }, .runEnd g.runBuffer)
    else (g, .plain)

/-- The sampler runs (R16): the SCANNER role, in JOINING, RUNNING or JAMMED. -/
def State.samplerRuns (s : State) : Bool := s.cfg.scanner && s.joined

/-- The station's sample of VIDEO (R16, R17). -/
def State.sample (s : State) (high : Bool) : FrontEnd × SampleEffect :=
  sampleStep s.cfg.noiseFilter s.cfg.quiet (sampleLevel (effectivePolarity s.straps s.cfg) high) s.frontEnd

/-- VIDEO_SAMPLE (R18, R19, R24). -/
def execVideoSample (high : Bool) (s : State) : Host.Outcome State Fault Refusal :=
  if s.samplerRuns = true ∧ (s.sample high).2 = .plain then .next { s with frontEnd := (s.sample high).1 } else .next s

/-- NOISE_FILTER_ACCEPT (R18, R19, R24 to R26, R28). -/
def execNoiseFilterAccept (high : Bool) (s : State) : Host.Outcome State Fault Refusal :=
  if s.samplerRuns = true ∧ (s.sample high).2 = .accepted then .next { s with frontEnd := (s.sample high).1 } else .next s

/-- QUIET_SEEN (R24). -/
def execQuietSeen (high : Bool) (s : State) : Host.Outcome State Fault Refusal :=
  if s.samplerRuns = true ∧ (s.sample high).2 = .quietSeen then .next { s with frontEnd := (s.sample high).1 }
  else .next s

/-- RUN_END_BY_QUIET (R27): the run is handed to the Code Decoder, which takes it within the event (R33). -/
def execRunEndByQuiet (high : Bool) (s : State) : Host.Outcome State Fault Refusal :=
  if s.samplerRuns = true then
    match s.sample high with
    | (f, .runEnd run) => .next { s with frontEnd := f, scan := s.scan.map (ScanRecord.takeRun run) }
    | _ => .next s
  else .next s

/-- SWEEP_EDGE (R29, R44): ignored in CLOSED; otherwise the quiet search starts anew and the sweep is counted. -/
def execSweepEdge (s : State) : Host.Outcome State Fault Refusal :=
  if s.frontEnd.capture = .closed then .next s
  else
    .next
      { s with
        frontEnd := s.frontEnd.seekQuiet,
        scan := s.scan.map (fun r => { r with sweeps := satInc r.sweeps }) }

/-- SCAN_CLOSE_POINT (R46): the open window's close point is reached. -/
def execScanClosePoint (s : State) : Host.Outcome State Fault Refusal :=
  match s.scan with
  | some r => if s.runState = .running ∧ pointReached s.tach.count r.closePoint = true then .next s.closeWindow else .next s
  | none => .next s

end Sys2Proof.Machine
end

