-- ==== Sys2Proof/Machine/Tach.lean ====
section
/-! DEFINITION. The Tach Unit (R1, R9 to R15) and the microsecond of the timebase (R6). -/

namespace Sys2Proof.Machine

/-- An interval enters in place of the oldest (R9, R10). -/
def TachRing.push (r : TachRing) (x : Word) : TachRing := ⟨r.s1, r.s2, r.s3, r.s4, r.s5, r.s6, r.s7, x⟩

/-- The sum of the eight intervals. -/
def TachRing.sum (r : TachRing) : Nat :=
  r.s0.toNat + r.s1.toNat + r.s2.toNat + r.s3.toNat + r.s4.toNat + r.s5.toNat + r.s6.toNat + r.s7.toNat

/-- P8: the sum, saturating at 65535 (R10). -/
def formP8 (r : TachRing) : Word := BitVec.ofNat 16 (min 65535 r.sum)

/-- A counted TACH edge (R1, R9, R10). -/
def TachUnit.edge (t : TachUnit) : TachUnit :=
  let ring := t.ring.push (if t.elapsed = 0 then 1 else t.elapsed)
  { count := t.count + 1, ring := ring, p8 := formP8 ring, elapsed := 0 }

/-- A stall: every slot and P8 become 65535, the counter stays saturated (R11). -/
def TachUnit.stall (t : TachUnit) : TachUnit :=
  { t with ring := ⟨65535, 65535, 65535, 65535, 65535, 65535, 65535, 65535⟩, p8 := 65535 }

/-- The fire advance (R13, R14): the quotient rounded up, bounded by ADV_MAX. -/
def fireAdvance (p8 latency advMax : Word) : Word :=
  BitVec.ofNat 16 (min advMax.toNat ((8 * latency.toNat + p8.toNat - 1) / p8.toNat))

/-- One µs of a drive's timers (R126, R127). -/
def Drive.tick : Drive → Drive
  | .off => .off
  | .pulling timer => .pulling (countDown timer)
  | .holding on left => .holding on (countDown left)

/-- One tick of the timebase, outside RESET (R6): the elapsed-time counter rises (R9), the timers of the drives run. -/
def State.tick (s : State) : State :=
  if s.runState = .reset then s
  else
    { s with
      tach := { s.tach with elapsed := satInc s.tach.elapsed },
      pockets := s.pockets.map (fun p => { p with drive := p.drive.tick }) }

/-- TACH_EDGE (R1, R9, R10): counted in every run state but RESET. -/
def execTachEdge (s : State) : Host.Outcome State Fault Refusal :=
  if s.runState = .reset then .next s else .next { s with tach := s.tach.edge }

/-- TACH_STALL (R11): the elapsed-time counter stands at 65535. DEDUCED (log 25): a stall that comes together with a TACH
edge is taken first or not at all, by the queue's order, and the ring is what the order taken gives; P8 is 65535 either way. -/
def execTachStall (s : State) : Host.Outcome State Fault Refusal :=
  if s.runState ≠ .reset ∧ s.tach.elapsed = 65535 then .next { s with tach := s.tach.stall } else .next s

end Sys2Proof.Machine
end

