-- ==== Sys2Proof/Machine/Sort.lean ====
section
/-! DEFINITION. The decision (R100 to R104) and the creation of a gate operation (R121 to R123). -/

namespace Sys2Proof.Machine

/-- A pocket is available when it is READY and its list holds fewer than 3 operations (R102). -/
def Pocket.available (p : Pocket) : Bool := p.state == .ready && decide (p.ops.length < maxOps)

/-- The first pocket that matches the entry and is available (R102). -/
def State.choosePocket (s : State) (e : Entry) : Option (Fin 4) :=
  [0, 1, 2, 3].find? (fun k => ruleMatches s.cfg (s.rule k) e && (s.pocket k).available)

/-- Places an operation after every one whose fire point is at or before its own and before every one whose fire point is
after its own (R121). -/
def placeOp (o : GateOp) : List GateOp → List GateOp
  | [] => [o]
  | x :: xs => if isAfter x.fire o.fire then o :: x :: xs else x :: placeOp o xs

/-- The operation created for an entry in pocket k (R121): fire point A + G - adv with the advance of this moment (R12), and
the release point and confirm close at once if the entry is PASSED (R123). -/
def State.newOp (s : State) (k : Fin 4) (e : Entry) : GateOp :=
  let gate := (s.rule k).gate
  let o : GateOp :=
    { id := e.id,
      fire := e.arrival.getD 0 + gate - fireAdvance s.tach.p8 s.cfg.latency s.cfg.advMax,
      release := none, confirmClose := none, state := .armed, confirmed := false, lateClaim := false }
  match e.presence, e.trailing with
  | .passed, some t => o.released t gate s.cfg.relMargin s.cfg.confExt
  | _, _ => o

/-- The Gate Controller creates an operation in pocket k (R121). -/
def State.createOp (s : State) (k : Fin 4) (e : Entry) : State :=
  let p := s.pocket k
  s.setPocket k { p with ops := placeOp (s.newOp k e) p.ops }

/-- A claim of pocket k, in the order of R103. -/
def State.claimPocket (s : State) (k : Fin 4) (e : Entry) : State :=
  let t := (s.modifyEntry e.id (fun x => { x with claim := .own k })).enqueue (.claim e.id k)
  (t.createOp k e).count (fun c => { c with claims := satInc c.claims })

/-- The next entry whose decision point is reached, in table order (R101). -/
def State.decisionDue (s : State) : Option Entry :=
  s.table.find? (fun e => pointReached s.tach.count e.decisionPoint)

/-- The decision on an entry (R101): decided, then a claim (R103), or nothing for a claimed letter or a decline (R104). -/
def State.decideEntry (s : State) (e : Entry) : State :=
  let t := s.modifyEntry e.id (fun x => { x with decided := true, decisionPoint := none })
  if e.claim = .none then
    match t.choosePocket e with
    | some k => t.claimPocket k e
    | none => t
  else t

/-- DECISION_POINT (R101). -/
def execDecisionPoint (s : State) : Host.Outcome State Fault Refusal :=
  match s.decisionDue with
  | some e => if s.runState = .running then .next (s.decideEntry e) else .next s
  | none => .next s

end Sys2Proof.Machine
end

