-- ==== Sys2Proof/WellFormed.lean ====
section
/-! DEFINITION. Which commands are events the part can meet at all, whatever its state. Most operands range over every
value of their type; the three rows that carry lists are checked. -/

namespace Sys2Proof

/-- The bytes after the header of a configuration image with h hold entries are 73 + 5·h, h of 0..32 (section 9.3). -/
def imageRestLength (n : Nat) : Bool := decide (73 ≤ n) && decide (n ≤ 73 + 5 * 32) && (n - 73) % 5 == 0

/-- A broken frame's cells are ones R146 finds broken; an ignored frame's kind and body are ones R162 ignores; the
configuration read completes with a whole image (R168). -/
def WellFormed : Instr → Bool
  | .brokenFrame cells =>
    match judgeCells cells with
    | .broken _ => true
    | _ => false
  | .ignoredFrameReceived h kind body => frameIgnored kind h body
  | .configReadComplete rest => imageRestLength rest.length
  | .tachEdge => true
  | .tachStall => true
  | .noiseFilterAccept _ => true
  | .quietSeen _ => true
  | .runEndByQuiet _ => true
  | .sweepEdge => true
  | .pcellLeadingEdge => true
  | .pcellTrailingEdge => true
  | .jamPoint => true
  | .expiryPoint => true
  | .retirementPoint => true
  | .scanClosePoint => true
  | .decisionPoint => true
  | .firePoint _ => true
  | .pullInExpiry _ => true
  | .chopPartExpiry _ => true
  | .releasePoint _ => true
  | .confirmClose _ => true
  | .pentryEdge _ => true
  | .pfullChange _ _ => true
  | .pswapActive _ => true
  | .pswapInactive _ => true
  | .busFree => true
  | .startOfFrame _ => true
  | .arbitrationLost => true
  | .bitError => true
  | .attemptEnd _ => true
  | .sightStalePoint => true
  | .jamReceived _ _ => true
  | .clearReceived _ => true
  | .claimReceived _ _ _ => true
  | .releaseReceived _ _ _ _ => true
  | .divertedReceived _ _ _ _ => true
  | .sightReceived _ _ _ _ => true
  | .readReceived _ _ _ _ _ _ => true
  | .lostReceived _ _ => true
  | .pollReceived _ _ => true
  | .joinReceived _ _ _ => true
  | .stopPress => true
  | .stopRelease => true
  | .resumePress => true
  | .resetEntry _ => true
  | .powerOkRiseInReset _ => true
  | .resetRelease _ _ => true
  | .headerByteCheck _ => true
  | .videoSample _ => true

end Sys2Proof
end

