-- ==== Sys2Proof/Machine/StartUp.lean ====
section
/-! DEFINITION. Resets and straps (R163 to R167), the configuration read (R168 to R171), bounding and the completed load
(R172 to R174). -/

namespace Sys2Proof.Machine

/-! ### Resets -/

/-- The work a fall of POWER_OK or RESET abandons at once (R163): letters, operations, window, capture, the line, the
configuration read; the level conditions that followed them end with it (log 17). -/
def State.abandonWork (s : State) : State :=
  { s with
    table := [], blockage := .none, scan := none, frontEnd := FrontEnd.atReset,
    pockets := s.pockets.map Pocket.dropOps,
    line := { s.line with state := .inactive, ackDriven := false, sending := [], queue := [] },
    loader := { selected := false, sent := [], header := [] },
    conditions := { active := s.conditions.active &&& keptBits, deltas := 0, markedLatched := 0, markedDeltas := 0 } }

/-- RESET_ENTRY (R163): a signal that was high falls. While POWER_OK is low the configuration is lost. -/
def execResetEntry (signal : ResetSignal) (s : State) : Host.Outcome State Fault Refusal :=
  let t := { s.abandonWork with runState := .reset, haltedAtEntry := s.haltedAtEntry || (s.runState == RunState.halted) }
  match signal with
  | .powerOk =>
    if s.pins.powerOk then
      .next { t with pins := { s.pins with powerOk := false }, config := none, powerLost := true }
    else .next s
  | .reset =>
    if s.pins.resetHigh then .next { t with pins := { s.pins with resetHigh := false } } else .next s

/-- POWER_OK_RISE_IN_RESET (R165): with RESET low, the straps are latched. -/
def execPowerOkRiseInReset (straps : Straps) (s : State) : Host.Outcome State Fault Refusal :=
  if s.runState = .reset ∧ s.pins.powerOk = false ∧ s.pins.resetHigh = false then
    .next { s with pins := { s.pins with powerOk := true }, straps := straps }
  else .next s

/-- The kinds of reset (R164). -/
inductive ResetKind where
  | powerOn
  | pin
  | retain
  deriving DecidableEq, Repr

/-- The kind of reset a release ends (R164). -/
def resetKind (s : State) (retain : Bool) : ResetKind :=
  if s.powerLost then .powerOn
  else if retain && s.config.isSome && !s.haltedAtEntry then .retain
  else .pin

/-- The straps after a release (R165): latched by a pin reset, and by POWER_OK's rise where that is the release; kept
otherwise (log 16). -/
def strapsAfter (s : State) (kind : ResetKind) (straps : Straps) : Straps :=
  match kind with
  | .powerOn => if s.pins.powerOk then s.straps else straps
  | .pin => straps
  | .retain => s.straps

/-- The state at the release of a power-on or pin reset (R166): all state as State.reset gives it, with the pins as they
stand, the straps, and the STOP released flag from STOP's level (R180). -/
def State.fullInit (s : State) (straps : Straps) : State :=
  { State.reset with
    pins := { s.pins with powerOk := true, resetHigh := true }, straps := straps, stopReleased := s.pins.stopHigh,
    pending := s.pending }

/-- The state at the release of a retain reset (R167), before it enters JOINING: what R167 keeps, and the rest as after any
reset. -/
def State.retainInit (s : State) : State :=
  { s.fullInit s.straps with
    config := s.config,
    loader := { selected := false, sent := [], header := [] },
    sequence := s.sequence,
    pockets := s.pockets.map (fun p => { Pocket.atReset with state := p.state, tally := p.tally }),
    readWindow := s.readWindow,
    line := { State.reset.line with discards := s.line.discards },
    counters := s.counters,
    conditions := { active := s.conditions.active &&& keptBits, deltas := 0, markedLatched := 0, markedDeltas := 0 } }

/-- RESET_RELEASE (R163 to R167): POWER_OK and RESET are both high. -/
def execResetRelease (straps : Straps) (retain : Bool) (s : State) : Host.Outcome State Fault Refusal :=
  if s.runState = .reset then
    match resetKind s retain with
    | .powerOn => .next (s.fullInit (strapsAfter s .powerOn straps))
    | .pin => .next (s.fullInit (strapsAfter s .pin straps))
    | .retain => .next s.retainInit.enterJoining
  else .next s

/-! ### The configuration read -/

/-- A structural failure (R171): the read ends, CMSEL goes high, and the station halts without a valid configuration. -/
def State.halt (s : State) : State :=
  { s with runState := .halted, config := none, loader := { selected := false, sent := s.loader.sent, header := [] } }

/-- The test of header byte n (R169). -/
def headerByteGood (n : Nat) (b : Byte) : Bool :=
  match n with
  | 0 => b == 0x4E
  | 1 => b == 0x42
  | 2 => b == 1
  | _ => decide (b ≤ 32)

/-- HEADER_BYTE_CHECK (R169): in LOADING, while header bytes are still to come. -/
def execHeaderByteCheck (byte : Byte) (s : State) : Host.Outcome State Fault Refusal :=
  if s.runState = .loading ∧ s.loader.header.length < 4 then
    if headerByteGood s.loader.header.length byte then
      .next { s with loader := { s.loader with header := s.loader.header ++ [byte] } }
    else .next s.halt
  else .next s

/-- Byte n of the image (section 9.3). -/
def imageByte (image : List Byte) (n : Nat) : Byte := image.getD n 0

/-- The two-byte field at offset n, most significant byte first. -/
def imageWord (image : List Byte) (n : Nat) : Word := bytesWord (imageByte image n) (imageByte image (n + 1))

/-- A number bounded to a range (R172). -/
def bound (lo hi v : Nat) : Nat := if v < lo then lo else if hi < v then hi else v

/-- The kind of a rule's kind code; codes of 5 and above name no kind (section 9.3). -/
def kindOfCode (b : Byte) : Option PocketKind :=
  match b.toNat with
  | 0 => some .off
  | 1 => some .classRange
  | 2 => some .hold
  | 3 => some .noRead
  | 4 => some .suspect
  | _ => none

/-- The number of a field of a range, as it stands in the image, with the range it is bounded to (R172). -/
def fieldRanges (image : List Byte) : List (Nat × Nat × Nat) :=
  let w (n : Nat) := (imageWord image n).toNat
  let b (n : Nat) := (imageByte image n).toNat
  [(0, 16383, w 4), (0, 4, b 7), (1, 255, w 8), (1, 4094, w 10), (1, 4094, w 12), (1, 4095, w 14), (1, 2047, w 16),
   (0, 8191, w 18), (0, 5, b 20), (1, 4, b 21), (16, 4095, w 22), (1, 15, b 24), (0, 2047, w 25), (0, 1, b 27),
   (100, 20000, w 28), (10, 1000, w 30), (10, 1000, w 32), (0, 16383, w 34), (0, 2047, w 38), (0, 32, b 74)]

/-- Some field outside the pocket rules is replaced by its bound (R172). -/
def fieldsClamped (image : List Byte) : Bool :=
  (fieldRanges image).any (fun x => bound x.1 x.2.1 x.2.2 != x.2.2)

/-- The pocket count as bounded (R172). -/
def pocketCountOf (image : List Byte) : Nat := bound 0 4 (imageByte image 7).toNat

/-- A rule whose fields are bounded: its pocket is below the pocket count and its kind names a kind other than OFF (R172). -/
def ruleInUse (image : List Byte) (k : Nat) : Bool :=
  decide (k < pocketCountOf image) && decide (1 ≤ (imageByte image (40 + 8 * k)).toNat)
    && decide ((imageByte image (40 + 8 * k)).toNat ≤ 4)

/-- A rule's gate distance is replaced by its bound (R172). -/
def gateClamped (image : List Byte) (k : Nat) : Bool :=
  let g := (imageWord image (40 + 8 * k + 4)).toNat
  ruleInUse image k && bound 1 4095 g != g

/-- The rule of pocket k with its gate distance bounded, its kind as the kind code gives it (R172). -/
def boundedRule (image : List Byte) (k : Nat) : PocketRule :=
  let at0 := 40 + 8 * k
  { kind := if k < pocketCountOf image then (kindOfCode (imageByte image at0)).getD .off else .off,
    excludeHeld := (imageByte image (at0 + 1)).getLsbD 0,
    classLow := imageByte image (at0 + 2),
    classHigh := imageByte image (at0 + 3),
    gate :=
      if ruleInUse image k then BitVec.ofNat 16 (bound 1 4095 (imageWord image (at0 + 4)).toNat)
      else imageWord image (at0 + 4),
    tallyLimit := imageWord image (at0 + 6) }

/-- Step 3 of R173 switches pocket k off: below the pocket count and not of kind OFF, with a kind code that names no kind, a
class low above its class high, or a gate distance not above DECIDE + ADV_MAX. -/
def ruleDisabled (image : List Byte) (k : Nat) : Bool :=
  let r := boundedRule image k
  let reach := bound 1 2047 (imageWord image 16).toNat + (imageByte image 36).toNat
  decide (k < pocketCountOf image) && imageByte image (40 + 8 * k) != 0
    && (decide (5 ≤ (imageByte image (40 + 8 * k)).toNat) || decide (r.classHigh < r.classLow)
        || decide (r.gate.toNat ≤ reach))

/-- The rule of pocket k after step 3 of R173. -/
def loadedRule (image : List Byte) (k : Nat) : PocketRule :=
  if ruleDisabled image k then { boundedRule image k with kind := .off } else boundedRule image k

/-- The gate distance of a rule that is not OFF, for the RETIRE floor. -/
def floorGate (r : PocketRule) : Option Nat := if r.kind = .off then none else some r.gate.toNat

/-- The RETIRE floor (step 4 of R173). -/
def retireFloor (rules : List PocketRule) (relMargin confExt scanTail : Nat) : Nat :=
  match (rules.filterMap floorGate).foldl (fun m g => some (max (m.getD 0) g)) (none : Option Nat) with
  | some g => max (g + relMargin + confExt) scanTail
  | none => scanTail

/-- An entry of the hold list: 36 bits, the high nibble of the first byte ignored (section 9.3). -/
def holdEntry (image : List Byte) (j : Nat) : Account :=
  (imageByte image (75 + 5 * j) ++ imageByte image (76 + 5 * j) ++ imageByte image (77 + 5 * j)
    ++ imageByte image (78 + 5 * j) ++ imageByte image (79 + 5 * j)).extractLsb' 0 36

/-- The configuration an image gives after R172 and R173, with the configuration CRC that passed. -/
def loadedConfig (image : List Byte) (crc : Word) : StationConfig :=
  let w (n : Nat) := (imageWord image n).toNat
  let b (n : Nat) := (imageByte image n).toNat
  let lenMax := bound 1 4094 (w 12)
  let scanTail := bound 0 2047 (w 25)
  let confExt := bound 0 2047 (w 38)
  let rules := [loadedRule image 0, loadedRule image 1, loadedRule image 2, loadedRule image 3]
  { position := BitVec.ofNat 14 (bound 0 16383 (w 4)),
    tail := (imageByte image 6).getLsbD 1,
    scanner := (imageByte image 6).getLsbD 0,
    pocketCount := pocketCountOf image,
    tol := BitVec.ofNat 16 (bound 1 255 (w 8)),
    lenMin := BitVec.ofNat 16 (min (bound 1 4094 (w 10)) lenMax),
    lenMax := BitVec.ofNat 16 lenMax,
    jamLen := BitVec.ofNat 16 (max (bound 1 4095 (w 14)) (lenMax + 1)),
    decideDist := BitVec.ofNat 16 (bound 1 2047 (w 16)),
    retire := BitVec.ofNat 16 (max (bound 0 8191 (w 18)) (retireFloor rules (b 37) confExt scanTail)),
    scanTail := BitVec.ofNat 16 scanTail,
    divider := bound 0 5 (b 20),
    noiseFilter := bound 1 4 (b 21),
    quiet := bound 16 4095 (w 22),
    voteMin := bound 1 15 (b 24),
    polarity := bound 0 1 (b 27) == 1,
    pullIn := BitVec.ofNat 16 (bound 100 20000 (w 28)),
    holdOn := BitVec.ofNat 16 (bound 10 1000 (w 30)),
    holdOff := BitVec.ofNat 16 (bound 10 1000 (w 32)),
    latency := BitVec.ofNat 16 (bound 0 16383 (w 34)),
    advMax := BitVec.ofNat 16 (b 36),
    relMargin := BitVec.ofNat 16 (b 37),
    confExt := BitVec.ofNat 16 confExt,
    rules := ⟨loadedRule image 0, loadedRule image 1, loadedRule image 2, loadedRule image 3⟩,
    alertMask := imageWord image 72 &&& 0x0FFF,
    readRateThreshold := bound 0 32 (b 74),
    holdList := (List.range (imageByte image 3).toNat).map (holdEntry image),
    crc := crc }

/-- Some replacement of R172, or of steps 1, 2 and 4 of R173, changes a value: CONFIG_CLAMPED. -/
def imageClamped (image : List Byte) : Bool :=
  let lenMax := bound 1 4094 (imageWord image 12).toNat
  let rules := [loadedRule image 0, loadedRule image 1, loadedRule image 2, loadedRule image 3]
  fieldsClamped image
    || gateClamped image 0 || gateClamped image 1 || gateClamped image 2 || gateClamped image 3
    || decide (lenMax < bound 1 4094 (imageWord image 10).toNat)
    || decide (bound 1 4095 (imageWord image 14).toNat < lenMax + 1)
    || decide (bound 0 8191 (imageWord image 18).toNat
        < retireFloor rules (imageByte image 37).toNat (bound 0 2047 (imageWord image 38).toNat)
            (bound 0 2047 (imageWord image 25).toNat))

/-- Some pocket is switched off in step 3 of R173: POCKET_DISABLED. -/
def imageDisables (image : List Byte) : Bool :=
  ruleDisabled image 0 || ruleDisabled image 1 || ruleDisabled image 2 || ruleDisabled image 3

/-- The image is taken (R174): the configuration is valid, the two conditions follow the bounding, the read ends, and the
station enters JOINING. -/
def State.completeLoad (s : State) (image : List Byte) (crc : Word) : State :=
  { s with
    config := some (loadedConfig image crc),
    loader := { selected := false, sent := s.loader.sent, header := [] },
    conditions :=
      (s.conditions.setTo .configClamped (imageClamped image)).setTo .pocketDisabled (imageDisables image) }.enterJoining

/-- The length of the bytes that follow this header: 73 + 5·h (R168). -/
def restLength (header : List Byte) : Nat := 73 + 5 * (header.getD 3 0).toNat

/-- CONFIG_READ_COMPLETE (R168, R170): in LOADING, with the header passed and every byte after it in; the image is all bytes
before the CRC field. -/
def execConfigReadComplete (rest : List Byte) (s : State) : Host.Outcome State Fault Refusal :=
  if s.runState = .loading ∧ s.loader.header.length = 4 ∧ rest.length = restLength s.loader.header then
    let all := s.loader.header ++ rest
    let image := all.take (all.length - 2)
    let crc := imageWord all (all.length - 2)
    if crc16 image = crc then .next (s.completeLoad image crc) else .next s.halt
  else .next s

/-- The row that the bits sampled from CMDI since the last row of the read call for (R168, R169): eight bits are a header
byte, and after the header the bits of every byte up to the end of the image complete the read. -/
def State.readRow (s : State) (bits : List Bool) : Option Instr :=
  if s.loader.selected then
    if s.loader.header.length < 4 then
      if bits.length = 8 then some (.headerByteCheck (bitsByte bits)) else none
    else if bits.length = 8 * restLength s.loader.header then some (.configReadComplete (bitsBytes bits))
    else none
  else none

end Sys2Proof.Machine
end

