-- ==== Sys2Proof/Machine/Supervisor.lean ====
section
/-! DEFINITION. STOP and RESUME (R180, R181). -/

namespace Sys2Proof.Machine

/-- STOP_PRESS (R178, R180): a falling edge. Outside RESET, one that finds the released flag set is recognised: it clears
the flag, and in RUNNING enters JAMMED with JAM(STOP). -/
def execStopPress (s : State) : Host.Outcome State Fault Refusal :=
  if s.pins.stopHigh then
    let t := { s with pins := { s.pins with stopHigh := false } }
    if s.runState ≠ .reset ∧ s.stopReleased = true then
      let u := { t with stopReleased := false }
      if s.runState = .running then .next (u.enterJammed (some .stop)) else .next u
    else .next t
  else .next s

/-- STOP_RELEASE (R180): a rising edge sets the released flag, outside RESET. -/
def execStopRelease (s : State) : Host.Outcome State Fault Refusal :=
  if s.pins.stopHigh then .next s
  else
    let t := { s with pins := { s.pins with stopHigh := true } }
    if s.runState = .reset then .next t else .next { t with stopReleased := true }

/-- RESUME_PRESS (R181): in JAMMED with PCELL clear and STOP high, CLEAR is queued and the station enters RUNNING. -/
def execResumePress (s : State) : Host.Outcome State Fault Refusal :=
  if s.runState = .jammed ∧ s.pins.pcellBlocked = false ∧ s.pins.stopHigh = true then
    .next (s.enqueue .clear).leaveJammed
  else .next s

end Sys2Proof.Machine
end

