-- ==== Sys2Proof/Machine/Dispatch.lean ====
section
/-! DEFINITION. The meaning of each command: one arm for each row of spec/opcode_table.json. -/

namespace Sys2Proof.Machine

def exec (i : Instr) (s : State) : Host.Outcome State Fault Refusal :=
  match i with
  | .tachEdge => Sys2Proof.Machine.execTachEdge s
  | .tachStall => Sys2Proof.Machine.execTachStall s
  | .noiseFilterAccept high => Sys2Proof.Machine.execNoiseFilterAccept high s
  | .quietSeen high => Sys2Proof.Machine.execQuietSeen high s
  | .runEndByQuiet high => Sys2Proof.Machine.execRunEndByQuiet high s
  | .sweepEdge => Sys2Proof.Machine.execSweepEdge s
  | .pcellLeadingEdge => Sys2Proof.Machine.execPcellLeadingEdge s
  | .pcellTrailingEdge => Sys2Proof.Machine.execPcellTrailingEdge s
  | .jamPoint => Sys2Proof.Machine.execJamPoint s
  | .expiryPoint => Sys2Proof.Machine.execExpiryPoint s
  | .retirementPoint => Sys2Proof.Machine.execRetirementPoint s
  | .scanClosePoint => Sys2Proof.Machine.execScanClosePoint s
  | .decisionPoint => Sys2Proof.Machine.execDecisionPoint s
  | .firePoint pocket => Sys2Proof.Machine.execFirePoint pocket s
  | .pullInExpiry pocket => Sys2Proof.Machine.execPullInExpiry pocket s
  | .chopPartExpiry pocket => Sys2Proof.Machine.execChopPartExpiry pocket s
  | .releasePoint pocket => Sys2Proof.Machine.execReleasePoint pocket s
  | .confirmClose pocket => Sys2Proof.Machine.execConfirmClose pocket s
  | .pentryEdge pocket => Sys2Proof.Machine.execPentryEdge pocket s
  | .pfullChange pocket active => Sys2Proof.Machine.execPfullChange pocket active s
  | .pswapActive pocket => Sys2Proof.Machine.execPswapActive pocket s
  | .pswapInactive pocket => Sys2Proof.Machine.execPswapInactive pocket s
  | .busFree => Sys2Proof.Machine.execBusFree s
  | .startOfFrame highCells => Sys2Proof.Machine.execStartOfFrame highCells s
  | .arbitrationLost => Sys2Proof.Machine.execArbitrationLost s
  | .bitError => Sys2Proof.Machine.execBitError s
  | .attemptEnd acked => Sys2Proof.Machine.execAttemptEnd acked s
  | .sightStalePoint => Sys2Proof.Machine.execSightStalePoint s
  | .brokenFrame cells => Sys2Proof.Machine.execBrokenFrame cells s
  | .jamReceived h reason => Sys2Proof.Machine.execJamReceived h reason s
  | .clearReceived h => Sys2Proof.Machine.execClearReceived h s
  | .claimReceived h id pocket => Sys2Proof.Machine.execClaimReceived h id pocket s
  | .releaseReceived h id pocket reason => Sys2Proof.Machine.execReleaseReceived h id pocket reason s
  | .divertedReceived h id pocket tally => Sys2Proof.Machine.execDivertedReceived h id pocket tally s
  | .sightReceived h id age length => Sys2Proof.Machine.execSightReceived h id age length s
  | .readReceived h id outcome quality sweeps code => Sys2Proof.Machine.execReadReceived h id outcome quality sweeps code s
  | .lostReceived h id => Sys2Proof.Machine.execLostReceived h id s
  | .pollReceived h target => Sys2Proof.Machine.execPollReceived h target s
  | .joinReceived h pockets crc => Sys2Proof.Machine.execJoinReceived h pockets crc s
  | .ignoredFrameReceived h kind body => Sys2Proof.Machine.execIgnoredFrameReceived h kind body s
  | .stopPress => Sys2Proof.Machine.execStopPress s
  | .stopRelease => Sys2Proof.Machine.execStopRelease s
  | .resumePress => Sys2Proof.Machine.execResumePress s
  | .resetEntry signal => Sys2Proof.Machine.execResetEntry signal s
  | .powerOkRiseInReset straps => Sys2Proof.Machine.execPowerOkRiseInReset straps s
  | .resetRelease straps retain => Sys2Proof.Machine.execResetRelease straps retain s
  | .headerByteCheck byte => Sys2Proof.Machine.execHeaderByteCheck byte s
  | .configReadComplete rest => Sys2Proof.Machine.execConfigReadComplete rest s
  | .videoSample high => Sys2Proof.Machine.execVideoSample high s

end Sys2Proof.Machine
end

