-- ==== Sys2Proof/Machine/Outputs.lean ====
section
/-! DEFINITION. The outputs of the part, computed from its state: GATEk (R124 to R127), JAMOUT and ALERT (R185), the
configuration port's CMSEL, CMCLK and CMDO (R163, R168), and what it drives on TL (R139, R147, R150). -/

namespace Sys2Proof.Machine

/-- GATEk is active in PULLING and in the on part of the hold chop (R124, R127). -/
def Drive.gateOn : Drive → Bool
  | .off => false
  | .pulling _ => true
  | .holding onPart _ => onPart

/-- GATEk. -/
def State.gateOut (s : State) (k : Fin 4) : Bool := (s.pocket k).drive.gateOn

/-- JAMOUT is asserted while the run state is JAMMED (R185). -/
def State.jamOut (s : State) : Bool := s.runState == .jammed

/-- ALERT is asserted when some condition in the alert mask is active, but inactive in reset and asserted in HALTED
(R185). -/
def State.alertOut (s : State) : Bool :=
  match s.runState with
  | .reset => false
  | .halted => true
  | _ => s.conditions.active &&& s.cfg.alertMask != 0

/-- CMSEL is low while the configuration memory is selected (R168). -/
def State.cmselHigh (s : State) : Bool := !s.loader.selected

/-- CMCLK in half cycle n of the read, counted from the fall of CMSEL: low in the first half of each cycle and high in the
second, which the rising edge begins. It rests low (R163, R168). -/
def State.cmclkHigh (s : State) (half : Nat) : Bool := s.loader.selected && half % 2 == 1

/-- CMDO in half cycle n of the read: held low in RESET (R163); one bit of the instruction and the address in each cycle,
most significant first (R168). Elsewhere the spec states no level, and it is a free value (log 27). -/
def State.cmdoHigh (s : State) (half : Nat) : Bool :=
  if s.runState = .reset then false
  else if s.loader.selected then (bytesBits s.loader.sent).getD (half / 2) (Config.freeCmdo s.tach.count half)
  else Config.freeCmdo s.tach.count half

/-- The bytes the station drives on TL in the attempt under way, if it is a sender (R144, R147). -/
def State.tlBytes (s : State) : Option (List Byte) :=
  if s.line.state = .inFrame .sender then some s.line.sending else none

/-- The cells the station sends after the start cell of the attempt under way, stuff cells among them (R143, R144). -/
def State.tlCells (s : State) : Option (List Bool) := s.tlBytes.map (fun bytes => stuffCells 0 (bytesBits bytes))

/-- What a sender makes of one cell it has sent and read back (R148, R149): a 1 of byte 0 that reads 0 is a lost
arbitration, any other difference a bit error. -/
def readBack (inByte0 sent read : Bool) : Option Instr :=
  if sent = read then none else if inByte0 && sent then some .arbitrationLost else some .bitError

/-- Follows an attempt from cell i on: the cells sent, and the levels read back, the acknowledge cell last (R148 to R150).
DESIGN CHOICE (log 30): cell 0 is the first cell of byte 0; the start cell, which R148 and R149 leave out, is not read back, so
a start cell that reads 1 has no effect.
Byte 0 takes the first 8 cells, since no kind has seven 1 cells before the last of them. DEDUCED (log 29): a stuff cell that
is due after the last CRC cell is one of the cells sent, so a misread of it is a bit error. -/
def followAttempt : Nat → List Bool → List Bool → Option Instr
  | _, [], ack :: _ => some (.attemptEnd (!ack))
  | i, sent :: cells, read :: levels =>
    match readBack (decide (i < 8)) sent read with
    | some row => some row
    | none => followAttempt (i + 1) cells levels
  | _, _, [] => none

/-- The row that ends the attempt under way, from the levels the station reads back; none while it goes on. -/
def State.attemptRow (s : State) (levels : List Bool) : Option Instr :=
  match s.tlCells with
  | some cells => followAttempt 0 cells levels
  | none => none

/-- The station drives the acknowledge cell low (R150). -/
def State.tlAck (s : State) : Bool := s.line.ackDriven

end Sys2Proof.Machine
end

