-- ==== Sys2Proof/Safety.lean ====
section
/-! DEFINITION. The laws a station keeps in a safe run, in the terms the claims use: its capacities, its track table, its
transmit queue, its drives, its run state, its conditions and its pocket states. -/

namespace Sys2Proof.Machine

/-! ### Terms the claims share -/

/-- A well-formed frame with this header reaches this station as a receiver and meets neither test of R161. -/
def State.Takes (s : State) (h : Header) : Prop :=
  s.line.state = .inFrame .receiver ∧ h.station ≠ s.straps.station ∧ h.position ≠ s.cfg.position

/-- The frame reaches the station in RUNNING from an upstream sender (R7). -/
def State.TakesLetterFrame (s : State) (h : Header) : Prop :=
  s.Takes h ∧ s.runState = .running ∧ h.position.toNat < s.cfg.position.toNat

/-- A well-formed frame with this header that meets neither test of R161 is handed to its owning block in the state t: the
acknowledged one at a receiver, and s itself while an attempt of this station is on the line (R107, R155, R157, log 28). -/
def State.HandsOn (s : State) (h : Header) (t : State) : Prop :=
  h.station ≠ s.straps.station ∧ h.position ≠ s.cfg.position
    ∧ ((s.line.state = .inFrame .receiver ∧ t = { s with line := { s.line with state := .waitFree, ackDriven := true } })
      ∨ (s.line.state = .inFrame .sender ∧ t = s))

/-- The frame is handed on in RUNNING and comes from an upstream sender (R7). -/
def State.HandsLetterOn (s : State) (h : Header) (t : State) : Prop :=
  s.HandsOn h t ∧ s.runState = .running ∧ h.position.toNat < s.cfg.position.toNat

/-- One sample at this level that changes no accepted level takes the front end from f to g (R18, R19). -/
def FrontEnd.Sampled (nf : Nat) (level : Level) (f g : FrontEnd) : Prop :=
  (level = f.accepted
      ∧ g = { f with pending := 0, width := satAdd f.width (f.pending + 1), searchSamples := satInc f.searchSamples })
    ∨ (level ≠ f.accepted ∧ f.pending + 1 < nf
        ∧ g = { f with pending := f.pending + 1, searchSamples := satInc f.searchSamples })

/-- The level the station reads a sample of VIDEO as (R17). -/
def State.levelOf (s : State) (high : Bool) : Level := sampleLevel (effectivePolarity s.straps s.cfg) high

/-- An entry is a candidate for a leading edge that carries this count (R61). -/
def Entry.Awaits (e : Entry) (tol : Word) (count : Pos) : Prop :=
  e.presence = .expected
    ∧ ∃ x, e.expectedAt = some x ∧ (count - (x - tol)).toNat ≤ ((x + tol) - (x - tol)).toNat

/-- A point is reached: it is set, and its position is at or before the count (R5). -/
def Reached (count : Pos) (point : Option Pos) : Prop := ∃ x, point = some x ∧ (count - x).toNat ≤ 32767

/-- The entry's expiry or its retirement is due (R74, R77). -/
def State.Due (s : State) (e : Entry) : Prop :=
  (e.presence = .expected ∧ Reached s.tach.count e.expiry)
    ∨ (e.presence = .passed ∧ Reached s.tach.count e.retirement ∧ s.ownOp e.id = none)

/-- A pocket with its state formed from this rule and these input levels (R114). -/
def Pocket.formed (p : Pocket) (rule : PocketRule) (swap full : Bool) : Pocket :=
  { p with state := formedState rule swap full p.fault p.tally }

/-- The operations of pocket k that a trailing position is given to (R123): those of the letter without a release point. -/
def State.withTrailing (s : State) (id : LetterId) (t : Pos) (k : Fin 4) : Pocket :=
  { s.pocket k with
    ops :=
      (s.pocket k).ops.map (fun o : GateOp =>
        if o.id = id ∧ o.release = none then
          { o with
            release := some (t + (s.rule k).gate + s.cfg.relMargin),
            confirmClose := some (t + (s.rule k).gate + s.cfg.relMargin + s.cfg.confExt) }
        else o) }

/-- The state before the JAM of the cause is queued: table, blockage, operations, drives, window and letter frames gone
(R179 steps 1 to 4). -/
def State.emptied (s : State) : State :=
  { s with
    table := [], blockage := .none,
    pockets := s.pockets.map (fun p : Pocket => { p with ops := [], drive := .off }),
    scan := none,
    frontEnd := { s.frontEnd with capture := .closed, quietSeen := false, runBuffer := [], searchSamples := 0 },
    line := { s.line with queue := s.line.queue.filter (fun q : QueuedFrame => !isLetterFrame q.frame) } }

/-- A pocket that R102 can claim for the entry. -/
def State.Fits (s : State) (e : Entry) (k : Fin 4) : Prop :=
  ruleMatches s.cfg (s.rule k) e = true ∧ (s.pocket k).state = .ready ∧ (s.pocket k).ops.length < 3

/-- The state with this pocket k, POCKET_FAULT and POCKET_FULL following it (R114). -/
def State.withPocket (s : State) (k : Fin 4) (p : Pocket) : State :=
  { s with pockets := s.pockets.set k p, conditions := pocketConditions (s.pockets.set k p) s.conditions }

/-- The state with this operation list and drive in pocket k, and nothing else changed. -/
def State.withGate (s : State) (k : Fin 4) (ops : List GateOp) (drive : Drive) : State :=
  { s with pockets := s.pockets.set k { s.pocket k with ops := ops, drive := drive } }

/-- The state with this queue, the attempt over and the line waiting for bus free (R149, R151). -/
def State.afterAttempt (s : State) (queue : List QueuedFrame) : State :=
  { s with line := { s.line with state := .waitFree, sending := [], queue := queue } }

/-- A discard counted: LINE_DISCARD latched and the line discard count up (R152). -/
def State.discardCounted (s : State) : State :=
  { s with
    line := { s.line with discards := if s.line.discards = 255 then 255 else s.line.discards + 1 },
    conditions := s.conditions.latch .lineDiscard }

/-- What telling the Sort Unit of a letter does to a state t (R84, step 3 of R71, R110, R111): u is t as it was, unless the
letter changed, its own operation is ARMED and the rule of the operation's pocket no longer matches; then the letter is
released as REJUDGED and the operation leaves the list. -/
def State.JudgedAgain (t : State) (id : LetterId) (changed : Bool) (u : State) : Prop :=
  (changed = false ∨ t.ownOp id = none → u = t)
    ∧ ∀ k o, t.ownOp id = some (k, o) →
        (o.state ≠ .armed → u = t)
        ∧ ∀ e, t.entry id = some e → changed = true → o.state = .armed →
            (ruleMatches t.cfg (t.rule k) e = true → u = t)
            ∧ (ruleMatches t.cfg (t.rule k) e = false →
                u = (t.releaseClaim id k .rejudged).withGate k ((t.pocket k).ops.erase o) (t.pocket k).drive)

/-- An identity operation changes the letter's identity: its state becomes another (R84). -/
def State.identityChanges (s : State) (id : LetterId) (f : Identity → Identity) : Bool :=
  (s.entry id).any (fun e => decide ((f e.identity).state ≠ e.identity.state))

/-- The state with the identity of the letter's entry changed, and nothing else. -/
def State.withIdentity (s : State) (id : LetterId) (f : Identity → Identity) : State :=
  { s with table := s.table.map (fun e : Entry => if e.id = id then { e with identity := f e.identity } else e) }

/-- An entry retires (R77, R78): it is removed, and a tail station queues and counts its RUNOUT for a claim that calls for
one. -/
def State.afterRetirement (s : State) (e : Entry) : State :=
  if s.cfg.tail = true ∧ (e.claim = .none ∨ e.claim = .releasedSelf ∨ (e.claim.isPeer = true ∧ e.arrivedWhileClaimed = true))
  then
    { (s.removeEntry e.id).enqueue
        (.runout e.id e.identity.state (if e.identity.state = .settled then e.identity.code else none)) with
      counters := { s.counters with runouts := satInc s.counters.runouts } }
  else s.removeEntry e.id

/-! ### The fields of a configuration image (section 9.3) -/

/-- The byte of the image at offset n, as a number. -/
def fieldByte (image : List Byte) (n : Nat) : Nat := (image.getD n 0).toNat

/-- The two-byte field of the image at offset n, most significant byte first. -/
def fieldWord (image : List Byte) (n : Nat) : Nat := 256 * fieldByte image n + fieldByte image (n + 1)

/-- The value of a range nearest to v: v itself when it lies in the range (R172). -/
def nearest (lo hi v : Nat) : Nat := max lo (min hi v)

/-- A field outside its range (R172). -/
def Outside (lo hi v : Nat) : Prop := v < lo ∨ hi < v

/-- Pocket k is below the pocket count as bounded (R172). -/
def PocketCounted (image : List Byte) (k : Fin 4) : Prop := k.val < min 4 (fieldByte image 7)

/-- The rule of pocket k is one whose gate distance is bounded: counted, of kind CLASS, HOLD, NOREAD or SUSPECT (R172). -/
def RuleBounded (image : List Byte) (k : Fin 4) : Prop :=
  PocketCounted image k ∧ 1 ≤ fieldByte image (40 + 8 * k.val) ∧ fieldByte image (40 + 8 * k.val) ≤ 4

/-- Step 3 of R173 switches pocket k off. -/
def SwitchedOff (image : List Byte) (k : Fin 4) : Prop :=
  PocketCounted image k
    ∧ (5 ≤ fieldByte image (40 + 8 * k.val)
      ∨ (RuleBounded image k
        ∧ (fieldByte image (43 + 8 * k.val) < fieldByte image (42 + 8 * k.val)
          ∨ nearest 1 4095 (fieldWord image (44 + 8 * k.val)) ≤ nearest 1 2047 (fieldWord image 16) + fieldByte image 36)))

/-- What pocket k asks of RETIRE in a configuration (step 4 of R173): nothing when it is OFF. -/
def retireFor (c : StationConfig) (k : Fin 4) : Nat :=
  if (c.rules.get k).kind = .off then 0 else (c.rules.get k).gate.toNat + c.relMargin.toNat + c.confExt.toNat

/-- The RETIRE floor of a configuration (step 4 of R173). -/
def floorOf (c : StationConfig) : Nat :=
  max c.scanTail.toNat (max (max (retireFor c 0) (retireFor c 1)) (max (retireFor c 2) (retireFor c 3)))

/-- Every field of the configuration but the pocket rules is the one the image holds at its offset, brought into its range
(R172) and related as steps 1, 2 and 4 of R173 say. -/
def FieldsTaken (image : List Byte) (c : StationConfig) : Prop :=
  let b := fieldByte image
  let w := fieldWord image
  c.position.toNat = nearest 0 16383 (w 4) ∧ c.tail = (image.getD 6 0).getLsbD 1 ∧ c.scanner = (image.getD 6 0).getLsbD 0
    ∧ c.pocketCount = nearest 0 4 (b 7) ∧ c.tol.toNat = nearest 1 255 (w 8)
    ∧ c.lenMin.toNat = min (nearest 1 4094 (w 10)) c.lenMax.toNat ∧ c.lenMax.toNat = nearest 1 4094 (w 12)
    ∧ c.jamLen.toNat = max (nearest 1 4095 (w 14)) (c.lenMax.toNat + 1) ∧ c.decideDist.toNat = nearest 1 2047 (w 16)
    ∧ c.retire.toNat = max (nearest 0 8191 (w 18)) (floorOf c) ∧ c.divider = nearest 0 5 (b 20)
    ∧ c.noiseFilter = nearest 1 4 (b 21) ∧ c.quiet = nearest 16 4095 (w 22) ∧ c.voteMin = nearest 1 15 (b 24)
    ∧ c.scanTail.toNat = nearest 0 2047 (w 25) ∧ c.polarity = decide (1 ≤ b 27)
    ∧ c.pullIn.toNat = nearest 100 20000 (w 28) ∧ c.holdOn.toNat = nearest 10 1000 (w 30)
    ∧ c.holdOff.toNat = nearest 10 1000 (w 32) ∧ c.latency.toNat = nearest 0 16383 (w 34) ∧ c.advMax.toNat = b 36
    ∧ c.relMargin.toNat = b 37 ∧ c.confExt.toNat = nearest 0 2047 (w 38) ∧ c.alertMask.toNat = w 72 % 4096
    ∧ c.readRateThreshold = nearest 0 32 (b 74) ∧ c.holdList.length = b 3
    ∧ ∀ j, j < b 3 → (c.holdList.getD j 0).toNat =
        (b (75 + 5 * j) % 16) * 4294967296 + b (76 + 5 * j) * 16777216 + b (77 + 5 * j) * 65536 + b (78 + 5 * j) * 256
          + b (79 + 5 * j)

/-- The rule of pocket k is the one the image holds in its eight bytes: OFF when the pocket is not counted, of kind code 0
or switched off; otherwise of the kind its code names, its gate distance brought into its range (R172, R173). -/
def RuleTaken (image : List Byte) (c : StationConfig) (k : Fin 4) : Prop :=
  let r := c.rules.get k
  let code := fieldByte image (40 + 8 * k.val)
  ((r.kind = .off ↔ ¬PocketCounted image k ∨ code = 0 ∨ SwitchedOff image k)
    ∧ (r.kind ≠ .off →
        (r.kind = .classRange ↔ code = 1) ∧ (r.kind = .hold ↔ code = 2) ∧ (r.kind = .noRead ↔ code = 3)
          ∧ (r.kind = .suspect ↔ code = 4) ∧ r.gate.toNat = nearest 1 4095 (fieldWord image (44 + 8 * k.val)))
    ∧ r.excludeHeld = (image.getD (41 + 8 * k.val) 0).getLsbD 0 ∧ r.classLow = image.getD (42 + 8 * k.val) 0
    ∧ r.classHigh = image.getD (43 + 8 * k.val) 0 ∧ r.tallyLimit.toNat = fieldWord image (46 + 8 * k.val))

/-- Some replacement of R172, or of steps 1, 2 and 4 of R173, changes a value: what makes CONFIG_CLAMPED active (R174). -/
def SomeFieldClamped (image : List Byte) (c : StationConfig) : Prop :=
  let b := fieldByte image
  let w := fieldWord image
  Outside 0 16383 (w 4) ∨ Outside 0 4 (b 7) ∨ Outside 1 255 (w 8) ∨ Outside 1 4094 (w 10) ∨ Outside 1 4094 (w 12)
    ∨ Outside 1 4095 (w 14) ∨ Outside 1 2047 (w 16) ∨ Outside 0 8191 (w 18) ∨ Outside 0 5 (b 20) ∨ Outside 1 4 (b 21)
    ∨ Outside 16 4095 (w 22) ∨ Outside 1 15 (b 24) ∨ Outside 0 2047 (w 25) ∨ Outside 0 1 (b 27)
    ∨ Outside 100 20000 (w 28) ∨ Outside 10 1000 (w 30) ∨ Outside 10 1000 (w 32) ∨ Outside 0 16383 (w 34)
    ∨ Outside 0 2047 (w 38) ∨ Outside 0 32 (b 74)
    ∨ (∃ k : Fin 4, RuleBounded image k ∧ Outside 1 4095 (w (44 + 8 * k.val)))
    ∨ c.lenMax.toNat < nearest 1 4094 (w 10) ∨ nearest 1 4095 (w 14) ≤ c.lenMax.toNat ∨ nearest 0 8191 (w 18) < floorOf c

/-! ### The laws -/

/-- The candidates of an open scan record, none without one. -/
def State.candidates (s : State) : List Candidate :=
  match s.scan with
  | some r => r.candidates
  | none => []

/-- No list outgrows its place: entries (R54), queued frames (R152), operations (R121), run widths (R28), candidates (R45),
outcomes (R90). -/
def CapacityLaw (s : State) : Prop :=
  s.table.length ≤ 48 ∧ s.line.queue.length ≤ 8 ∧ (∀ k, (s.pocket k).ops.length ≤ 3)
    ∧ s.frontEnd.runBuffer.length ≤ 64 ∧ s.candidates.length ≤ 4 ∧ s.readWindow.length ≤ 32

/-- No two entries carry one letter ID (R54); a BLOCKED record and an open window name an entry that is in the table (R56,
R47). -/
def TrackLaw (s : State) : Prop :=
  (s.table.map Entry.id).Nodup
    ∧ (∀ id a j, s.blockage = .blocked id a j → (s.entry id).isSome = true)
    ∧ (∀ r, s.scan = some r → (s.entry r.id).isSome = true)

/-- The queue is in order of kind code and holds at most one STATUS, kind 10, and one JOIN, kind 11 (R152); attempt counts are 0..2 (section
8.3); at most one frame is in flight, and only while the station is a sender (R147). -/
def Line.Lawful (l : Line) : Prop :=
  l.queue.Pairwise (fun a b => frameKind a.frame ≤ frameKind b.frame)
    ∧ l.queue.countP (fun q => decide (frameKind q.frame = 10)) ≤ 1
    ∧ l.queue.countP (fun q => decide (frameKind q.frame = 11)) ≤ 1
    ∧ (∀ q ∈ l.queue, q.attempts ≤ 2)
    ∧ l.queue.countP (fun q => q.inFlight) ≤ 1
    ∧ ((∃ q ∈ l.queue, q.inFlight = true) → l.state = .inFrame .sender)

/-- The station's queue is lawful. -/
def QueueLaw (s : State) : Prop := s.line.Lawful

/-- A pocket's drive agrees with its list (R124 to R126): a PULL_IN operation has the drive PULLING, a HOLD operation has it
HOLDING, and a drive that is on has an active operation. -/
def Pocket.DriveAgrees (p : Pocket) : Prop :=
  (∀ o ∈ p.ops, o.state = .pullIn → ∃ t, p.drive = .pulling t)
    ∧ (∀ o ∈ p.ops, o.state = .hold → ∃ b t, p.drive = .holding b t)
    ∧ (p.drive ≠ .off → ∃ o ∈ p.ops, o.active = true)

/-- Every drive agrees with its pocket's list. -/
def DriveLaw (s : State) : Prop := ∀ k, (s.pocket k).DriveAgrees

/-- Outside RUNNING no letter work is held (R54, R138, R158, R179): no entry, no blockage, no window, no operation, every
drive OFF, no frame queued but JAM, CLEAR, STATUS and JOIN. -/
def State.Idle (s : State) : Prop :=
  s.table = [] ∧ s.blockage = .none ∧ s.scan = none
    ∧ (∀ k, (s.pocket k).ops = [] ∧ (s.pocket k).drive = .off)
    ∧ (∀ q ∈ s.line.queue,
        (∃ r, q.frame = .jam r) ∨ q.frame = .clear ∨ q.frame = .status ∨ ∃ n crc, q.frame = .join n crc)

/-- What each run state brings with it: RESET exactly while a reset signal is low (R163), the line active exactly in
JOINING, RUNNING and JAMMED (R139), a configuration in those and none in LOADING and HALTED (R164, R171), the
configuration memory selected exactly in LOADING, with the read instruction and address 0 sent to it (R168), no letter work
outside RUNNING, and the front end CLOSED exactly without a window (R21, R22). -/
def RunLaw (s : State) : Prop :=
  (s.runState = .reset ↔ ¬(s.pins.powerOk = true ∧ s.pins.resetHigh = true))
    ∧ (s.line.state = .inactive ↔ s.joined = false)
    ∧ (s.joined = true → s.config.isSome = true)
    ∧ (s.runState = .loading ∨ s.runState = .halted → s.config = none)
    ∧ (s.loader.selected = true ↔ s.runState = .loading)
    ∧ (s.loader.selected = true → s.loader.sent = [0x03, 0x00, 0x00])
    ∧ (s.runState ≠ .running → s.Idle)
    ∧ (s.scan = none ↔ s.frontEnd.capture = .closed)

/-- The condition map and the delta map use bits 0 to 11 only (section 10.2), only latched conditions, ranks 2, 3, 6, 9 and 10, carry the mark of
R187, and JAMMED is active exactly in the run state JAMMED (R179, R184). -/
def ConditionLaw (s : State) : Prop :=
  s.conditions.active &&& 0xF000#16 = 0 ∧ s.conditions.deltas &&& 0xF000#16 = 0
    ∧ s.conditions.markedLatched &&& 0xFCD9#16 = 0
    ∧ (s.conditions.isActive .jammed = true ↔ s.runState = .jammed)

/-- In JOINING, RUNNING and JAMMED every pocket's state is the one R114 forms from its inputs, and POCKET_FAULT and
POCKET_FULL follow the states. -/
def PocketLaw (s : State) : Prop :=
  s.joined = true →
    (∀ k, (s.pocket k).state =
        formedState (s.rule k) (s.pins.pswap.get k) (s.pins.pfull.get k) (s.pocket k).fault (s.pocket k).tally)
      ∧ (s.conditions.isActive .pocketFault = true ↔ ∃ k, (s.pocket k).state = .fault)
      ∧ (s.conditions.isActive .pocketFull = true ↔ ∃ k, (s.pocket k).state = .full ∨ (s.pocket k).state = .out)

end Sys2Proof.Machine
end

