-- ==== Sys2Proof/Certificates/Slice0/Obligations.lean ====
section
/-! DEFINITION. The statements for the provers. Each docstring names the rules of spec/ the statement formalises. -/

open Sys2Proof Sys2Proof.Machine

/-! ### Running commands -/

/-- The model's step: the command at the front of the queue runs on the state with the queue's rest (log 1). The model's
choice (log 2): a step on an empty queue is one microsecond of R6. The elapsed-time counter rises and saturates (R9), a
pull-in timer and the part of a hold chop run down (R126, R127), nothing else changes. -/
def Obligations.StepRunsFrontCommandOrTicks : Prop :=
  (∀ (s : State) (c : Instr) (cs : List Instr), s.pending = c :: cs → step s = exec c { s with pending := cs })
  ∧ (∀ s : State, s.pending = [] →
      (s.runState = .reset → step s = .next s)
        ∧ (s.runState ≠ .reset →
            step s =
              .next
                { s with
                  tach := { s.tach with elapsed := if s.tach.elapsed = 65535 then 65535 else s.tach.elapsed + 1 },
                  pockets :=
                    s.pockets.map (fun p =>
                      { p with
                        drive :=
                          match p.drive with
                          | .off => .off
                          | .pulling t => .pulling (if t = 0 then 0 else t - 1)
                          | .holding on t => .holding on (if t = 0 then 0 else t - 1) }) }))

/-- The spec names no event that stops the part, so every command completes in every state and leaves the waiting commands
alone (log 1, log 24). -/
def Obligations.EveryCommandCompletes : Prop :=
  ∀ (c : Instr) (s : State), ∃ t, exec c s = .next t ∧ t.pending = s.pending

/-- The model's choice (log 4): a command whose event cannot happen in the present state leaves the state as it is. The
clauses: points of the count outside RUNNING and with nothing due; sample rows without the sampler, and those whose effect
the sample does not have; points and timers of a pocket; the line's events outside their line state; frames at a station that
is neither a receiver nor a sender, and contents that are not the row's; edges to the level the pin has; a stall before
65535; resets and the configuration read outside their run state. A tach event in RESET, a SWEEP edge in CLOSED, a drive
timer above 0 and an entry edge that is not taken stand in the statements of their own rows. -/
def Obligations.EventsThatCannotHappenChangeNothing : Prop :=
  ∀ s : State,
    (s.runState ≠ .running → exec .jamPoint s = .next s ∧ exec .expiryPoint s = .next s
      ∧ exec .retirementPoint s = .next s ∧ exec .scanClosePoint s = .next s ∧ exec .decisionPoint s = .next s)
    ∧ (s.pins.pcellBlocked = false ∨ ¬Reached s.tach.count s.blockage.jamAt → exec .jamPoint s = .next s)
    ∧ ((∀ x ∈ s.table, ¬s.Due x) → exec .expiryPoint s = .next s ∧ exec .retirementPoint s = .next s)
    ∧ (∀ before e after, s.table = before ++ e :: after → (∀ x ∈ before, ¬s.Due x) → s.Due e →
      (e.presence ≠ .expected → exec .expiryPoint s = .next s)
      ∧ (e.presence ≠ .passed → exec .retirementPoint s = .next s))
    ∧ ((∀ r, s.scan = some r → ¬Reached s.tach.count r.closePoint) → exec .scanClosePoint s = .next s)
    ∧ ((∀ x ∈ s.table, ¬Reached s.tach.count x.decisionPoint) → exec .decisionPoint s = .next s)
    ∧ (s.samplerRuns = false → ∀ high, exec (.videoSample high) s = .next s ∧ exec (.noiseFilterAccept high) s = .next s
      ∧ exec (.quietSeen high) s = .next s ∧ exec (.runEndByQuiet high) s = .next s)
    ∧ (∀ high, s.levelOf high ≠ s.frontEnd.accepted → s.cfg.noiseFilter ≤ s.frontEnd.pending + 1 →
      exec (.videoSample high) s = .next s ∧ exec (.quietSeen high) s = .next s
        ∧ exec (.runEndByQuiet high) s = .next s)
    ∧ (∀ high g, FrontEnd.Sampled s.cfg.noiseFilter (s.levelOf high) s.frontEnd g →
      let quietDone :=
        g.capture = .seekingQuiet ∧ g.quietSeen = false ∧ g.accepted = .space ∧ s.cfg.quiet ≤ g.quietWidth
      let runDone := g.capture = .inRun ∧ g.accepted = .space ∧ s.cfg.quiet ≤ g.measured
      exec (.noiseFilterAccept high) s = .next s
      ∧ (quietDone ∨ runDone → exec (.videoSample high) s = .next s)
      ∧ (¬quietDone → exec (.quietSeen high) s = .next s)
      ∧ (¬runDone → exec (.runEndByQuiet high) s = .next s))
    ∧ (∀ k,
      ((∀ o ∈ (s.pocket k).ops, ¬(o.state = .armed ∧ Reached s.tach.count (some o.fire))) →
        exec (.firePoint k) s = .next s)
      ∧ ((∀ o ∈ (s.pocket k).ops, ¬((o.state = .pullIn ∨ o.state = .hold) ∧ Reached s.tach.count o.release)) →
        exec (.releasePoint k) s = .next s)
      ∧ ((∀ o ∈ (s.pocket k).ops,
          ¬(o.state = .trailing ∧ o.confirmed = false ∧ Reached s.tach.count o.confirmClose)) →
        exec (.confirmClose k) s = .next s)
      ∧ ((∀ t, (s.pocket k).drive ≠ .pulling t) → exec (.pullInExpiry k) s = .next s)
      ∧ ((∀ on t, (s.pocket k).drive ≠ .holding on t) → exec (.chopPartExpiry k) s = .next s))
    ∧ (s.line.state ≠ .inFrame .sender → exec .arbitrationLost s = .next s ∧ exec .bitError s = .next s
      ∧ ∀ acked, exec (.attemptEnd acked) s = .next s)
    ∧ (s.line.state ≠ .waitFree → exec .busFree s = .next s)
    ∧ (s.line.state = .inactive ∨ (∃ role, s.line.state = .inFrame role) →
      ∀ highCells, exec (.startOfFrame highCells) s = .next s)
    ∧ ((∀ q ∈ s.line.queue, ¬(Reached s.tach.count q.stalePoint ∧ q.staleReached = false)) →
      exec .sightStalePoint s = .next s)
    ∧ (∀ cells, s.line.state ≠ .inFrame .receiver ∨ WellFormed (.brokenFrame cells) = false →
      exec (.brokenFrame cells) s = .next s)
    ∧ (s.line.state ≠ .inFrame .receiver → s.line.state ≠ .inFrame .sender →
      ∀ c, frameOf c ≠ none → exec c s = .next s)
    ∧ (∀ h kind body, WellFormed (.ignoredFrameReceived h kind body) = false →
      exec (.ignoredFrameReceived h kind body) s = .next s)
    ∧ (s.pins.pcellBlocked = true → exec .pcellLeadingEdge s = .next s)
    ∧ (s.pins.pcellBlocked = false → exec .pcellTrailingEdge s = .next s)
    ∧ (s.pins.stopHigh = false → exec .stopPress s = .next s)
    ∧ (s.pins.stopHigh = true → exec .stopRelease s = .next s)
    ∧ (∀ k, exec (.pfullChange k (s.pins.pfull.get k)) s = .next s
      ∧ (s.pins.pswap.get k = true → exec (.pswapActive k) s = .next s)
      ∧ (s.pins.pswap.get k = false → exec (.pswapInactive k) s = .next s))
    ∧ (s.runState ≠ .jammed → exec .resumePress s = .next s)
    ∧ (s.tach.elapsed ≠ 65535 → exec .tachStall s = .next s)
    ∧ (s.pins.powerOk = false → exec (.resetEntry .powerOk) s = .next s)
    ∧ (s.pins.resetHigh = false → exec (.resetEntry .reset) s = .next s)
    ∧ (s.runState ≠ .reset ∨ s.pins.powerOk = true ∨ s.pins.resetHigh = true →
      ∀ straps, exec (.powerOkRiseInReset straps) s = .next s)
    ∧ (s.runState ≠ .reset → ∀ straps retain, exec (.resetRelease straps retain) s = .next s)
    ∧ (s.runState ≠ .loading ∨ 4 ≤ s.loader.header.length → ∀ b, exec (.headerByteCheck b) s = .next s)
    ∧ (∀ rest : List Byte,
      s.runState ≠ .loading ∨ s.loader.header.length ≠ 4
        ∨ rest.length ≠ 73 + 5 * (s.loader.header.getD 3 0).toNat →
      exec (.configReadComplete rest) s = .next s)

/-! ### Positions and the tach -/

/-- R3 and R4: the comparison of positions by their forward difference, and the windows [x, y]. -/
def Obligations.PositionsAndWindows : Prop :=
  (∀ a b : Pos,
    (isAfter b a = true ↔ 1 ≤ (b.toNat + 65536 - a.toNat) % 65536 ∧ (b.toNat + 65536 - a.toNat) % 65536 ≤ 32767)
    ∧ (atOrAfter b a = true ↔ (b.toNat + 65536 - a.toNat) % 65536 ≤ 32767)
    ∧ (isAfter a b = true ↔ 32769 ≤ (b.toNat + 65536 - a.toNat) % 65536)
    ∧ (isAfter b a = true → isAfter a b = false)
    ∧ ((a ≠ b ∧ isAfter b a = false ∧ isAfter a b = false) ↔ b = a + 32768))
  ∧ (∀ x y c : Pos,
    (inWindow x y c = true ↔
      (c.toNat + 65536 - x.toNat) % 65536 ≤ (y.toNat + 65536 - x.toNat) % 65536)
    ∧ inWindow x y x = true ∧ inWindow x y y = true ∧ (inWindow x x c = true ↔ c = x))

/-- R1, R9, R10: a TACH edge counts, its interval (or 1) enters the ring in place of the oldest, P8 is the saturated sum. R11:
a stall fills the ring. In RESET a TACH edge is not counted (R1); that TACH_STALL changes nothing there is the model's choice
(log 4). -/
def Obligations.TachEdgeAndStall : Prop :=
  ∀ s : State,
    (s.runState ≠ .reset →
      exec .tachEdge s =
        .next
          { s with
            tach :=
              { count := s.tach.count + 1,
                ring :=
                  ⟨s.tach.ring.s1, s.tach.ring.s2, s.tach.ring.s3, s.tach.ring.s4, s.tach.ring.s5, s.tach.ring.s6,
                    s.tach.ring.s7, if s.tach.elapsed = 0 then 1 else s.tach.elapsed⟩,
                p8 :=
                  BitVec.ofNat 16
                    (min 65535
                      (s.tach.ring.s1.toNat + s.tach.ring.s2.toNat + s.tach.ring.s3.toNat + s.tach.ring.s4.toNat
                        + s.tach.ring.s5.toNat + s.tach.ring.s6.toNat + s.tach.ring.s7.toNat
                        + (if s.tach.elapsed = 0 then 1 else s.tach.elapsed).toNat)),
                elapsed := 0 } })
    ∧ (s.runState ≠ .reset → s.tach.elapsed = 65535 →
      exec .tachStall s =
        .next
          { s with
            tach :=
              { s.tach with ring := ⟨65535, 65535, 65535, 65535, 65535, 65535, 65535, 65535⟩, p8 := 65535 } })
    ∧ (s.runState = .reset → exec .tachEdge s = .next s ∧ exec .tachStall s = .next s)

/-- R13, R14, R15: the advance is the least number of counts that covers the latency at the measured speed, 8·L / P8 rounded
up, but no more than ADV_MAX; with P8 saturated it is 0, 1 or 2. -/
def Obligations.FireAdvanceCoversLatency : Prop :=
  ∀ p8 latency advMax : Word, p8 ≠ 0 →
    (∃ n : Nat, 8 * latency.toNat ≤ n * p8.toNat ∧ (∀ m : Nat, 8 * latency.toNat ≤ m * p8.toNat → n ≤ m)
      ∧ (fireAdvance p8 latency advMax).toNat = min advMax.toNat n)
    ∧ (p8 = 65535 →
      (latency = 0 → (fireAdvance p8 latency advMax).toNat = 0)
      ∧ (1 ≤ latency.toNat → latency.toNat ≤ 8191 → (fireAdvance p8 latency advMax).toNat = min advMax.toNat 1)
      ∧ (8192 ≤ latency.toNat → latency.toNat ≤ 16383 → (fireAdvance p8 latency advMax).toNat = min advMax.toNat 2))

/-! ### The scanner -/

/-- R17: bar and space by the effective polarity. R18, R19, R24: a sample that changes no accepted level and completes no
quiet zone changes the filter's pending count and the width. -/
def Obligations.VideoSampleCounts : Prop :=
  (∀ (s : State) (high : Bool), s.levelOf high = .bar ↔ (high = true ↔ s.straps.vpol = s.cfg.polarity))
  ∧ ∀ (s : State) (high : Bool) (g : FrontEnd), s.samplerRuns = true →
      FrontEnd.Sampled s.cfg.noiseFilter (s.levelOf high) s.frontEnd g →
      ¬(g.capture = .seekingQuiet ∧ g.quietSeen = false ∧ g.accepted = .space ∧ s.cfg.quiet ≤ g.quietWidth) →
      ¬(g.capture = .inRun ∧ g.accepted = .space ∧ s.cfg.quiet ≤ g.measured) →
      exec (.videoSample high) s = .next { s with frontEnd := g }

/-- R18, R19: the NF-th disagreeing sample changes the accepted level; the new element has width NF. R23, R25, R26, R28: what
that does to the capture, the ended element's width being the old one. -/
def Obligations.NoiseFilterAcceptChangesLevel : Prop :=
  ∀ (s : State) (high : Bool), s.samplerRuns = true → s.levelOf high ≠ s.frontEnd.accepted →
    s.cfg.noiseFilter ≤ s.frontEnd.pending + 1 →
    let f := s.frontEnd
    let g : FrontEnd :=
      { f with
        accepted := s.levelOf high, pending := 0, width := BitVec.ofNat 16 s.cfg.noiseFilter,
        searchSamples := satInc f.searchSamples }
    (f.capture = .closed → exec (.noiseFilterAccept high) s = .next { s with frontEnd := g })
    ∧ (f.capture = .seekingQuiet → s.levelOf high = .bar → f.quietSeen = true →
      exec (.noiseFilterAccept high) s =
        .next { s with frontEnd := { g with capture := .inRun, quietSeen := false, runBuffer := [] } })
    ∧ (f.capture = .seekingQuiet → (s.levelOf high = .space ∨ f.quietSeen = false) →
      exec (.noiseFilterAccept high) s = .next { s with frontEnd := g })
    ∧ (f.capture = .inRun → f.runBuffer.length < 64 →
      exec (.noiseFilterAccept high) s = .next { s with frontEnd := { g with runBuffer := f.runBuffer ++ [f.width] } })
    ∧ (f.capture = .inRun → 64 ≤ f.runBuffer.length →
      exec (.noiseFilterAccept high) s =
        .next
          { s with
            frontEnd :=
              { g with
                capture := .seekingQuiet, quietSeen := false, runBuffer := [],
                searchSamples := BitVec.ofNat 16 s.cfg.noiseFilter } })

/-- R24: the sample that brings the quiet width to QUIET sets quiet seen. R27: the sample that brings the current space of a
run to QUIET ends the run, which goes to the open scan record, and quiet seen is set. That samples still pending in the
filter count at once toward both widths is the model's reading (log 8): so the two widths are given. R29, R44: a SWEEP edge
is ignored in CLOSED; otherwise it starts the quiet search anew, discards a run in progress and counts a sweep of the open
record, up to 255. -/
def Obligations.QuietAndSweepEvents : Prop :=
  (∀ g : FrontEnd, g.measured = min 65535 (g.width.toNat + g.pending)
      ∧ (g.accepted = .space → g.quietWidth = min g.measured g.searchSamples.toNat))
  ∧ (∀ (s : State) (high : Bool) (g : FrontEnd), s.samplerRuns = true →
      FrontEnd.Sampled s.cfg.noiseFilter (s.levelOf high) s.frontEnd g → g.accepted = .space →
      (g.capture = .seekingQuiet → g.quietSeen = false → s.cfg.quiet ≤ g.quietWidth →
        exec (.quietSeen high) s = .next { s with frontEnd := { g with quietSeen := true } })
      ∧ (g.capture = .inRun → s.cfg.quiet ≤ g.measured →
        exec (.runEndByQuiet high) s =
          .next
            { s with
              frontEnd := { g with capture := .seekingQuiet, quietSeen := true, runBuffer := [] },
              scan := s.scan.map (ScanRecord.takeRun g.runBuffer) }))
  ∧ (∀ s : State,
      (s.frontEnd.capture = .closed → exec .sweepEdge s = .next s)
      ∧ (s.frontEnd.capture ≠ .closed →
        exec .sweepEdge s =
          .next
            { s with
              frontEnd :=
                { s.frontEnd with capture := .seekingQuiet, quietSeen := false, runBuffer := [], searchSamples := 0 },
              scan := s.scan.map (fun r => { r with sweeps := if r.sweeps = 255 then 255 else r.sweeps + 1 }) }))

/-! ### Decoding -/

/-- R32: a code passes when the sum of D0, D2, to D10 times 3, of D1, D3, to D9, and of D11 leaves 0 on division by 16, D0
being the most significant digit; an error in any one digit of a code that passes is found. -/
def Obligations.CheckDigitFindsOneError : Prop :=
  (∀ c : Code,
    let digit (i : Nat) : Nat := c.toNat / 16 ^ (11 - i) % 16
    (∀ i, codeDigit c i = digit i)
    ∧ (checkDigitPasses c = true ↔
      (3 * (digit 0 + digit 2 + digit 4 + digit 6 + digit 8 + digit 10)
        + (digit 1 + digit 3 + digit 5 + digit 7 + digit 9) + digit 11) % 16 = 0))
  ∧ ∀ (c d : Code) (i : Nat), checkDigitPasses c = true → i < 12 → codeDigit d i ≠ codeDigit c i →
      (∀ j, j < 12 → j ≠ i → codeDigit d j = codeDigit c j) → checkDigitPasses d = false

/-- R34 to R40 on what section 3.2 prints: every code that passes the check digit, printed with a module of m samples, is
decoded from a forward scan as itself FORWARD and from a reverse scan as itself REVERSE. What is printed is START, the twelve
digits' patterns, STOP and the terminator, by the table of section 3.2. -/
def Obligations.PrintedCodesDecodeBothWays : Prop :=
  let pattern (digit : Nat) : List Nat :=
    [[3, 2, 2, 1], [3, 2, 1, 2], [3, 1, 2, 2], [2, 3, 2, 1], [2, 3, 1, 2], [2, 2, 3, 1], [2, 2, 1, 3], [2, 1, 3, 2],
      [2, 1, 2, 3], [1, 3, 2, 2], [1, 2, 3, 2], [1, 2, 2, 3], [3, 1, 3, 1], [3, 1, 1, 3], [1, 3, 3, 1],
      [1, 3, 1, 3]].getD digit []
  ∀ (c : Code) (m : Nat),
    let run : List Word :=
      ([1, 1, 3, 3] ++ (List.range 12).flatMap (fun i => pattern (codeDigit c i)) ++ [3, 3, 1, 1, 2]).map
        (fun modules => BitVec.ofNat 16 (modules * m))
    printedRun c m = run
    ∧ (checkDigitPasses c = true → 1 ≤ m → 3 * m ≤ 65535 →
      decodeRun run = some (c, .forward) ∧ decodeRun run.reverse = some (c, .reverse))

/-- R33, R41, R45: what taking a run does to the scan record, case by case. Its counts stay at 255, and 16-bit counts at
65535 (00_scope.md section 5). -/
def Obligations.TakingARunCountsAndOffers : Prop :=
  (∀ (b : Byte) (w : Word), satInc b = (if b = 255 then 255 else b + 1) ∧ satInc w = (if w = 65535 then 65535 else w + 1))
  ∧ ∀ (r : ScanRecord) (run : List Word),
    (run.length ≠ 57 → r.takeRun run = { r with runs := satInc r.runs })
    ∧ (run.length = 57 → decodeRun run = none →
      r.takeRun run = { r with runs := satInc r.runs, fullRuns := satInc r.fullRuns })
    ∧ (∀ c d, run.length = 57 → decodeRun run = some (c, d) →
      (∀ before x after, r.candidates = before ++ x :: after → (∀ y ∈ before, y.code ≠ c) → x.code = c →
        r.takeRun run =
          { r with
            runs := satInc r.runs, fullRuns := satInc r.fullRuns, decodes := satInc r.decodes,
            candidates := before ++ { x with count := satInc x.count } :: after })
      ∧ ((∀ y ∈ r.candidates, y.code ≠ c) → r.candidates.length < 4 →
        r.takeRun run =
          { r with
            runs := satInc r.runs, fullRuns := satInc r.fullRuns, decodes := satInc r.decodes,
            candidates := r.candidates ++ [{ code := c, count := 1, direction := d }] })
      ∧ ((∀ y ∈ r.candidates, y.code ≠ c) → 4 ≤ r.candidates.length →
        r.takeRun run =
          { r with runs := satInc r.runs, fullRuns := satInc r.fullRuns, decodes := satInc r.decodes }))

/-- R49, R50, R51: the vote. A candidate with at least VOTE_MIN decodes and strictly more than every other wins, with the
runner-up's count and the bounded quality; without one the record fails for the first reason that holds. -/
def Obligations.VoteFormsReadRecord : Prop :=
  ∀ (voteMin : Nat) (r : ScanRecord), (r.candidates.map Candidate.code).Nodup →
    (∀ x ∈ r.candidates, voteMin ≤ x.count.toNat → (∀ y ∈ r.candidates, y ≠ x → y.count.toNat < x.count.toNat) →
      ∃ runnerUp : Nat,
        formReadRecord voteMin r =
          { id := r.id,
            verdict :=
              .good x.code x.count (BitVec.ofNat 8 runnerUp) (BitVec.ofNat 4 (min 15 (x.count.toNat - runnerUp)))
                x.direction,
            sweeps := r.sweeps }
        ∧ (∀ y ∈ r.candidates, y ≠ x → y.count.toNat ≤ runnerUp)
        ∧ (runnerUp = 0 ∨ ∃ y ∈ r.candidates, y ≠ x ∧ y.count.toNat = runnerUp))
    ∧ ((¬∃ x ∈ r.candidates, voteMin ≤ x.count.toNat
          ∧ ∀ y ∈ r.candidates, y ≠ x → y.count.toNat < x.count.toNat) →
      ∃ reason, formReadRecord voteMin r = { id := r.id, verdict := .failed reason, sweeps := r.sweeps }
        ∧ (r.fullRuns = 0 → reason = .noRun)
        ∧ (r.fullRuns ≠ 0 → r.candidates = [] → reason = .noDecode)
        ∧ (r.fullRuns ≠ 0 → (∃ x ∈ r.candidates, voteMin ≤ x.count.toNat) → reason = .tie)
        ∧ (r.fullRuns ≠ 0 → r.candidates ≠ [] → (∀ x ∈ r.candidates, x.count.toNat < voteMin) → reason = .tooFew))

/-- R46, R49 to R52, R85, R90 to R92: at its close point the window closes with its read record: the read is applied to the
identity, the letter is judged again if its identity changed and its own operation is ARMED (R84, R110, R111), READ is
queued, the outcome counted and entered in the read-rate window, READ_RATE_LOW formed anew, and the front end is CLOSED
(R22). With a fired operation, or none, the read changes the identity alone. That the row also takes a point already passed
is the model's choice (log 3); which operation is the letter's own is its reading (log 20). -/
def Obligations.ScanClosePointReadsLetter : Prop :=
  ∀ (s : State) (r : ScanRecord), s.runState = .running → s.scan = some r → Reached s.tach.count r.closePoint →
    let record := formReadRecord s.cfg.voteMin r
    let outcome : ReadOutcome :=
      match record.verdict with
      | .good _ _ _ _ _ => .good
      | .failed _ => .failed
    let read : Identity → Identity :=
      match record.verdict with
      | .good code _ _ quality _ => fun i => i.applyGood code quality s.straps.station
      | .failed _ => Identity.applyFailed
    let window : List ReadOutcome :=
      if s.readWindow.length < 32 then s.readWindow ++ [outcome] else s.readWindow.drop 1 ++ [outcome]
    let t := s.withIdentity r.id read
    ∃ judged, t.JudgedAgain r.id (s.identityChanges r.id read) judged
      ∧ (s.ownOp r.id = none ∨ (∃ k o, s.ownOp r.id = some (k, o) ∧ o.state ≠ .armed) → judged = t)
      ∧ (let u := judged.enqueue (.read record)
        exec .scanClosePoint s =
          .next
            { u with
              counters :=
                match outcome with
                | .good => { u.counters with goodReads := satInc u.counters.goodReads }
                | .failed => { u.counters with failedReads := satInc u.counters.failedReads },
              readWindow := window,
              conditions :=
                u.conditions.setTo .readRateLow
                  (decide (s.cfg.readRateThreshold ≠ 0) && decide (s.cfg.readRateThreshold ≤ window.count .failed)),
              scan := none,
              frontEnd :=
                { s.frontEnd with capture := .closed, quietSeen := false, runBuffer := [], searchSamples := 0 } })

/-! ### Identity and matching -/

/-- R82 and R83, line by line: what a good read and a failed read do to an identity. -/
def Obligations.ReadsChangeIdentity : Prop :=
  ∀ (i : Identity) (c : Code) (q : BitVec 4) (reader : Station),
    (i.state = .unread →
      i.applyGood c q reader =
        { state := .settled, code := some c, agree := 1, fail := 0, best := q, firstReader := some reader }
      ∧ i.applyFailed = { i with state := .failed, fail := 1 })
    ∧ (i.state = .failed →
      i.applyGood c q reader =
        { state := .settled, code := some c, agree := 1, fail := i.fail, best := q, firstReader := some reader })
    ∧ (i.state = .settled → i.code = some c →
      i.applyGood c q reader =
        { i with
          agree := if i.agree = 15 then 15 else i.agree + 1, best := if i.best.toNat < q.toNat then q else i.best })
    ∧ (i.state = .settled → i.code ≠ some c → i.applyGood c q reader = { i with state := .conflict })
    ∧ (i.state = .conflict → i.applyGood c q reader = i)
    ∧ (i.state ≠ .unread → i.applyFailed = { i with fail := if i.fail = 15 then 15 else i.fail + 1 })

/-- R95, R96: which entries a pocket rule of each kind matches. A letter that is not SETTLED, with or without a code, and a
letter with DOUBLE set match no CLASS and no HOLD rule. The account reference is D2 to D10. -/
def Obligations.RulesMatchByKind : Prop :=
  (∀ c : Code, (codeAccount c).toNat = c.toNat / 16 % 16 ^ 9)
  ∧ ∀ (cfg : StationConfig) (rule : PocketRule) (e : Entry),
    let held := ∃ c, e.identity.code = some c ∧ codeAccount c ∈ cfg.holdList
    (rule.kind = .off → ruleMatches cfg rule e = false)
    ∧ (rule.kind = .classRange ∨ rule.kind = .hold → (e.identity.state ≠ .settled ∨ e.double = true) →
      ruleMatches cfg rule e = false)
    ∧ (rule.kind = .classRange → ∀ c, e.identity.code = some c →
      (ruleMatches cfg rule e = true ↔
        e.identity.state = .settled ∧ rule.classLow.toNat ≤ 16 * codeDigit c 0 + codeDigit c 1
          ∧ 16 * codeDigit c 0 + codeDigit c 1 ≤ rule.classHigh.toNat ∧ e.double = false
          ∧ (rule.excludeHeld = true → ¬held)))
    ∧ (rule.kind = .hold → ∀ c, e.identity.code = some c →
      (ruleMatches cfg rule e = true ↔ e.identity.state = .settled ∧ held ∧ e.double = false))
    ∧ (rule.kind = .noRead →
      (ruleMatches cfg rule e = true ↔
        (e.identity.state = .unread ∨ e.identity.state = .failed) ∧ e.double = false))
    ∧ (rule.kind = .suspect →
      (ruleMatches cfg rule e = true ↔ e.identity.state = .conflict ∨ e.double = true))

/-! ### The photocell and the track table -/

/-- R55: a new entry stands after the entries that precede the first one whose reference position is after its own, and
before that one; the reference position is A, or E without one. R56: an entry that leaves the table takes its points with it,
a window open for it is discarded, a blockage that names it turns UNTRACKED and keeps its letter ID; nothing is queued or
counted. -/
def Obligations.EntriesArePlacedAndRemoved : Prop :=
  (∀ (e : Entry) (t : List Entry),
    placeEntry e t =
      t.takeWhile (fun x => !isAfter x.reference e.reference) ++ e
        :: t.dropWhile (fun x => !isAfter x.reference e.reference))
  ∧ (∀ (e : Entry) (x : Pos), (e.arrival = some x → e.reference = x)
      ∧ (e.arrival = none → e.expectedAt = some x → e.reference = x))
  ∧ ∀ (s : State) (id : LetterId),
      let windowOpen := ∃ r, s.scan = some r ∧ r.id = id
      let others := s.table.filter (fun x : Entry => decide (x.id ≠ id))
      (s.removeEntry id).entry id = none
      ∧ (∀ other, other ≠ id → (s.removeEntry id).entry other = s.entry other)
      ∧ (windowOpen →
        s.removeEntry id =
          { s with
            table := others, blockage := blockageAfterRemoval id s.blockage, scan := none,
            frontEnd := { s.frontEnd with capture := .closed, quietSeen := false, runBuffer := [], searchSamples := 0 } })
      ∧ (¬windowOpen →
        s.removeEntry id =
          { s with table := others, blockage := blockageAfterRemoval id s.blockage })
      ∧ (∀ a j, s.blockage = .blocked id a j → (s.removeEntry id).blockage = .untracked (some id) a j)
      ∧ ((∀ a j, s.blockage ≠ .blocked id a j) → (s.removeEntry id).blockage = s.blockage)
      ∧ withoutEntry id s.table = others

/-- R60, R61, R62, R65, R100: a leading edge in RUNNING with no window open matches the first awaiting entry in table order. It
becomes PRESENT with A the count, a PEER claim becomes NONE with ARRIVED_WHILE_CLAIMED set, it is placed again, its scan
window is opened at a SCANNER station, the jam point is set, and the decision point unless it is decided. -/
def Obligations.LeadingEdgeMatchesEntry : Prop :=
  ∀ (s : State) (before after : List Entry) (e : Entry), s.runState = .running → s.pins.pcellBlocked = false →
    s.scan = none → s.table = before ++ e :: after → (∀ x ∈ before, ¬x.Awaits s.cfg.tol s.tach.count) →
    e.Awaits s.cfg.tol s.tach.count →
    let a := s.tach.count
    exec .pcellLeadingEdge s =
      .next
        { s with
          pins := { s.pins with pcellBlocked := true },
          table :=
            placeEntry
              { e with
                presence := .present, arrival := some a, expiry := none,
                claim := if e.claim.isPeer then .none else e.claim,
                arrivedWhileClaimed := e.arrivedWhileClaimed || e.claim.isPeer,
                decisionPoint := if e.decided then none else some (a + s.cfg.decideDist) }
              (withoutEntry e.id s.table),
          blockage := .blocked e.id a (a + s.cfg.jamLen),
          scan :=
            if s.cfg.scanner then
              some
                { id := e.id, closePoint := none, sweeps := 0, runs := 0, fullRuns := 0, decodes := 0, candidates := [] }
            else none,
          frontEnd :=
            if s.cfg.scanner then
              { s.frontEnd with capture := .seekingQuiet, quietSeen := false, runBuffer := [], searchSamples := 0 }
            else s.frontEnd }

/-- R63, R65, R100: a leading edge that no entry awaits enters an orphan under the first free sequence number, counting up
from the sequence counter, which is then the next one; R63's search always ends. R64: at a full table nothing is entered,
TABLE_FULL is latched and the blockage is UNTRACKED. -/
def Obligations.LeadingEdgeEntersOrphan : Prop :=
  ∀ s : State, s.runState = .running → s.pins.pcellBlocked = false → s.scan = none →
    (∀ x ∈ s.table, ¬x.Awaits s.cfg.tol s.tach.count) →
    let a := s.tach.count
    (s.table.length < 48 →
      ∃ n : Nat, n ≤ s.table.length
        ∧ (∀ m : Nat, m < n →
            ∃ x ∈ s.table, x.id = { origin := s.straps.station, seq := s.sequence + BitVec.ofNat 12 m })
        ∧ (∀ x ∈ s.table, x.id ≠ { origin := s.straps.station, seq := s.sequence + BitVec.ofNat 12 n })
        ∧ exec .pcellLeadingEdge s =
            .next
              { s with
                pins := { s.pins with pcellBlocked := true },
                sequence := s.sequence + BitVec.ofNat 12 n + 1,
                table :=
                  placeEntry
                    { id := { origin := s.straps.station, seq := s.sequence + BitVec.ofNat 12 n }, origin := .own,
                      presence := .present, expectedAt := none, arrival := some a, trailing := none, length := none,
                      double := false, arrivedWhileClaimed := false, divertedHeard := false, lostHeard := false,
                      identity :=
                        { state := .unread, code := none, agree := 0, fail := 0, best := 0, firstReader := none },
                      claim := .none, decided := false, expiry := none, retirement := none,
                      decisionPoint := some (a + s.cfg.decideDist) }
                    s.table,
                blockage :=
                  .blocked { origin := s.straps.station, seq := s.sequence + BitVec.ofNat 12 n } a (a + s.cfg.jamLen),
                scan :=
                  if s.cfg.scanner then
                    some
                      { id := { origin := s.straps.station, seq := s.sequence + BitVec.ofNat 12 n }, closePoint := none,
                        sweeps := 0, runs := 0, fullRuns := 0, decodes := 0, candidates := [] }
                  else none,
                frontEnd :=
                  if s.cfg.scanner then
                    { s.frontEnd with capture := .seekingQuiet, quietSeen := false, runBuffer := [], searchSamples := 0 }
                  else s.frontEnd })
    ∧ (48 ≤ s.table.length →
      exec .pcellLeadingEdge s =
        .next
          { s with
            pins := { s.pins with pcellBlocked := true },
            blockage := .untracked none a (a + s.cfg.jamLen),
            conditions := s.conditions.latch .tableFull })

/-- R65 step 1 and R46: a leading edge in RUNNING first closes an open window with its read, as SCAN_CLOSE_POINT closes it,
whatever it meets then. R60:
outside RUNNING a PCELL edge changes the level of the pin only. -/
def Obligations.LeadingEdgeClosesWindowFirst : Prop :=
  (∀ s : State, s.runState = .running → s.pins.pcellBlocked = false →
      exec .pcellLeadingEdge s = exec .pcellLeadingEdge s.closeWindow)
  ∧ (∀ s : State, s.runState = .running →
      (s.scan = none → s.closeWindow = s)
      ∧ ∀ r : ScanRecord, s.scan = some r →
          exec .scanClosePoint { s with scan := some { r with closePoint := some s.tach.count } } = .next s.closeWindow)
  ∧ (∀ s : State, s.runState ≠ .running → s.pins.pcellBlocked = false →
      exec .pcellLeadingEdge s = .next { s with pins := { s.pins with pcellBlocked := true } })
  ∧ (∀ s : State, s.runState ≠ .running → s.pins.pcellBlocked = true →
      exec .pcellTrailingEdge s = .next { s with pins := { s.pins with pcellBlocked := false } })

/-- R66, R70, R71, R73, R123, R43, R77: a trailing edge that ends a letter's blockage. The entry becomes PASSED with its
measure and retirement point, an OWN entry queues and counts its SIGHT, the letter's operations gain their points, and a
letter whose DOUBLE changed is judged again if its own operation is ARMED (R110). Its open window gains its close point, and
with the point not ahead it closes at once, as SCAN_CLOSE_POINT closes it; a retirement point not ahead then retires an entry
without own operation within the event (the order of the two is log 9, the operations given points log 19, the own operation
log 20: the model's readings). A blockage shorter than LEN_MIN is taken
so too when the entry's own operation has fired (R69). -/
def Obligations.TrailingEdgePassesLetter : Prop :=
  ∀ (s : State) (id : LetterId) (a j : Pos) (e : Entry), s.runState = .running → s.pins.pcellBlocked = true →
    s.blockage = .blocked id a j → s.entry id = some e →
    let c := s.tach.count
    let len := c - a
    (s.cfg.lenMin.toNat ≤ len.toNat
      ∨ ∃ k k' o, e.claim = .own k ∧ s.ownOp id = some (k', o) ∧ o.state ≠ .armed) →
    let t : State :=
      { s with
        pins := { s.pins with pcellBlocked := false },
        blockage := .none,
        table :=
          s.table.map (fun x : Entry =>
            if x.id = id then
              { x with
                presence := .passed, trailing := some c, length := some len, double := decide (s.cfg.lenMax < len),
                retirement := some (c + s.cfg.retire) }
            else x) }
    let u : State := if e.origin = .own then t.enqueue (.sight id a len) else t
    let told : State :=
      { u with
        counters :=
          if e.origin = .own then { s.counters with sightings := satInc s.counters.sightings } else s.counters,
        pockets := ⟨s.withTrailing id c 0, s.withTrailing id c 1, s.withTrailing id c 2, s.withTrailing id c 3⟩ }
    let windowOpen := ∃ r, s.scan = some r ∧ r.id = id
    let closes := Reached c (some (c + s.cfg.scanTail))
    let retires := Reached c (some (c + s.cfg.retire))
    ∃ judged closed, told.JudgedAgain id (e.double != decide (s.cfg.lenMax < len)) judged
      ∧ (let marked : State :=
          { judged with
            scan :=
              s.scan.map (fun r : ScanRecord =>
                if r.id = id then { r with closePoint := some (c + s.cfg.scanTail) } else r) }
        (¬windowOpen ∨ ¬closes → closed = marked)
        ∧ (windowOpen → closes → exec .scanClosePoint marked = .next closed))
      ∧ (¬retires ∨ closed.ownOp id ≠ none → exec .pcellTrailingEdge s = .next closed)
      ∧ (retires → closed.ownOp id = none →
        ∃ passed, closed.entry id = some passed ∧ exec .pcellTrailingEdge s = .next (closed.afterRetirement passed))

/-- R66, R67, R68, R74: a fragment of an entry without an own claim. An OWN entry is removed; an UPSTREAM entry is EXPECTED
again at its E, or, when its window has passed, expires within the event. R69: a fragment of an entry claimed by this
station, its operation still ARMED: the letter is released as REJUDGED, the operation cancelled, and an OWN entry removed; an
UPSTREAM entry reverts with claim RELEASED_SELF, or expires. R66: a blockage without an entry ends without a letter; the ID
it kept gives its operations the trailing position (R123); one the station never took ends with nothing (R60). The operations
given points (log 19) and the own operation (log 20) are the model's readings. -/
def Obligations.TrailingEdgeEndsFragmentOrUntracked : Prop :=
  (∀ (s : State) (id : LetterId) (a j : Pos) (e : Entry), s.runState = .running → s.pins.pcellBlocked = true →
      s.blockage = .blocked id a j → s.entry id = some e → (s.tach.count - a).toNat < s.cfg.lenMin.toNat →
      (∀ k, e.claim ≠ .own k) →
      let t : State := { s with pins := { s.pins with pcellBlocked := false }, blockage := .none }
      (e.origin = .own → exec .pcellTrailingEdge s = .next (t.removeEntry id))
      ∧ (∀ x, e.origin = .upstream → e.expectedAt = some x → isAfter (x + s.cfg.tol + 1) s.tach.count = true →
        exec .pcellTrailingEdge s =
          .next
            { t with
              table :=
                placeEntry
                  { e with
                    presence := .expected, arrival := none, decisionPoint := none, expiry := some (x + s.cfg.tol + 1) }
                  (withoutEntry id s.table),
              scan := (t.removeEntry id).scan,
              frontEnd := (t.removeEntry id).frontEnd })
      ∧ (∀ x, e.origin = .upstream → e.expectedAt = some x → Reached s.tach.count (some (x + s.cfg.tol + 1)) →
        exec .pcellTrailingEdge s =
          .next
            (if e.claim.isPeer || e.lostHeard then t.removeEntry id
             else
               { (t.removeEntry id).enqueue (.lost id) with
                 counters := { s.counters with lost := satInc s.counters.lost } })))
  ∧ (∀ s : State, s.runState = .running → s.pins.pcellBlocked = true →
      let t : State := { s with pins := { s.pins with pcellBlocked := false }, blockage := .none }
      (∀ id a j e k k' o, s.blockage = .blocked id a j → s.entry id = some e →
        (s.tach.count - a).toNat < s.cfg.lenMin.toNat → e.claim = .own k → s.ownOp id = some (k', o) → o.state = .armed →
        e.origin = .own →
        exec .pcellTrailingEdge s = .next (((t.releaseClaim id k .rejudged).cancelOp k id).removeEntry id))
      ∧ (∀ id a j e k k' o x, s.blockage = .blocked id a j → s.entry id = some e →
        (s.tach.count - a).toNat < s.cfg.lenMin.toNat → e.claim = .own k → s.ownOp id = some (k', o) → o.state = .armed →
        e.origin = .upstream → e.expectedAt = some x →
        let u := (t.releaseClaim id k .rejudged).cancelOp k id
        let gone := u.removeEntry id
        (¬Reached s.tach.count (some (x + s.cfg.tol + 1)) →
          exec .pcellTrailingEdge s =
            .next
              { u with
                table :=
                  placeEntry
                    { e with
                      presence := .expected, arrival := none, decisionPoint := none,
                      expiry := some (x + s.cfg.tol + 1), claim := .releasedSelf }
                    (withoutEntry id u.table),
                scan := gone.scan, frontEnd := gone.frontEnd })
        ∧ (Reached s.tach.count (some (x + s.cfg.tol + 1)) →
          exec .pcellTrailingEdge s =
            .next
              (if e.lostHeard then gone
               else
                 { gone.enqueue (.lost id) with
                   counters := { u.counters with lost := satInc u.counters.lost } })))
      ∧ (∀ id a j, s.blockage = .untracked (some id) a j →
        exec .pcellTrailingEdge s =
          .next
            { t with
              pockets :=
                ⟨s.withTrailing id s.tach.count 0, s.withTrailing id s.tach.count 1, s.withTrailing id s.tach.count 2,
                  s.withTrailing id s.tach.count 3⟩ })
      ∧ (∀ a j, s.blockage = .untracked none a j → exec .pcellTrailingEdge s = .next t)
      ∧ (s.blockage = .none → exec .pcellTrailingEdge s = .next t))

/-- R72, R178, R179, R180, R79, R138, R158: the three causes take a RUNNING station into JAMMED: its own jam point with PCELL
still blocked, a recognised STOP (each queues its JAM), and a JAM frame (which queues none), at a receiver and while an
attempt of this station is on the line (log 28). That the row also takes a point already passed is the model's choice (log 3).
R158: the frames that the purge takes, and those that stay. -/
def Obligations.ThreeCausesEnterJammed : Prop :=
  (∀ f : Frame,
    isLetterFrame f =
      (match f with
        | .claim _ _ => true
        | .release _ _ _ => true
        | .diverted _ _ _ => true
        | .sight _ _ _ => true
        | .read _ => true
        | .lost _ => true
        | .runout _ _ _ => true
        | .jam _ => false
        | .clear => false
        | .status => false
        | .join _ _ => false))
  ∧ ∀ s : State, s.runState = .running →
    (s.pins.pcellBlocked = true → Reached s.tach.count s.blockage.jamAt →
      let u := s.emptied.enqueue (.jam .ownPhotocell)
      exec .jamPoint s = .next { u with runState := .jammed, conditions := u.conditions.setTo .jammed true })
    ∧ (s.pins.stopHigh = true → s.stopReleased = true →
      let t : State := { s with pins := { s.pins with stopHigh := false }, stopReleased := false }
      let u := t.emptied.enqueue (.jam .stop)
      exec .stopPress s = .next { u with runState := .jammed, conditions := u.conditions.setTo .jammed true })
    ∧ (∀ h reason t, s.HandsOn h t →
      let u := t.emptied
      exec (.jamReceived h reason) s =
        .next { u with runState := .jammed, conditions := s.conditions.setTo .jammed true })

/-- R74: in RUNNING the first due entry in table order, if EXPECTED, expires: it is removed, and unless its claim is PEER or
LOST_HEARD is set LOST is queued and counted. R77, R78, R93: if PASSED and without an own operation it retires: it is
removed, and a tail station queues and counts its RUNOUT for a claim that calls for one. That a row also takes a point
already passed is the model's choice (log 3); which operation is an entry's own is its reading (log 20). -/
def Obligations.DueEntriesExpireOrRetire : Prop :=
  ∀ (s : State) (before after : List Entry) (e : Entry), s.runState = .running → s.table = before ++ e :: after →
    (∀ x ∈ before, ¬s.Due x) → s.Due e →
    (e.presence = .expected →
      exec .expiryPoint s =
        .next
          (if e.claim.isPeer || e.lostHeard then s.removeEntry e.id
           else
             { (s.removeEntry e.id).enqueue (.lost e.id) with
               counters := { s.counters with lost := satInc s.counters.lost } }))
    ∧ (e.presence = .passed →
      let tells :=
        s.cfg.tail = true
          ∧ (e.claim = .none ∨ e.claim = .releasedSelf ∨ (e.claim.isPeer = true ∧ e.arrivedWhileClaimed = true))
      (¬tells → exec .retirementPoint s = .next (s.removeEntry e.id))
      ∧ (tells →
        exec .retirementPoint s =
          .next
            { (s.removeEntry e.id).enqueue
                (.runout e.id e.identity.state (if e.identity.state = .settled then e.identity.code else none)) with
              counters := { s.counters with runouts := satInc s.counters.runouts } }))

/-! ### The decision and claims -/

/-- R101 to R104, R99, R121, R123: the first entry in table order whose decision point is reached is decided. Unclaimed, it
takes the first of pockets 0 to 3 that matches and is available: CLAIM queued, an ARMED operation placed by its fire point A
+ G - adv, after those whose fire point is not after its own, the claims counter up. Claimed, or with no such pocket, nothing
more happens. That the row also takes a point already passed is the model's choice (log 3); so is 0 for the arrival position
of an entry without one, which no run reaches (log 18). -/
def Obligations.DecisionClaimsFirstPocket : Prop :=
  ∀ (s : State) (before after : List Entry) (e : Entry), s.runState = .running → s.table = before ++ e :: after →
    (∀ x ∈ before, ¬Reached s.tach.count x.decisionPoint) → Reached s.tach.count e.decisionPoint →
    (∀ k : Fin 4, e.claim = .none → s.Fits e k → (∀ j : Fin 4, j < k → ¬s.Fits e j) →
      let t : State :=
        { s with
          table :=
            s.table.map (fun x : Entry =>
              if x.id = e.id then { x with decided := true, decisionPoint := none, claim := .own k } else x) }
      let u := t.enqueue (.claim e.id k)
      let gate := (s.rule k).gate
      let release := (if e.presence = .passed then e.trailing else none).map (fun x => x + gate + s.cfg.relMargin)
      let o : GateOp :=
        { id := e.id, fire := e.arrival.getD 0 + gate - fireAdvance s.tach.p8 s.cfg.latency s.cfg.advMax,
          release := release, confirmClose := release.map (fun x => x + s.cfg.confExt), state := .armed,
          confirmed := false, lateClaim := false }
      let ops := (s.pocket k).ops
      exec .decisionPoint s =
        .next
          { u with
            counters := { s.counters with claims := satInc s.counters.claims },
            pockets :=
              s.pockets.set k
                { s.pocket k with
                  ops :=
                    ops.takeWhile (fun x => !isAfter x.fire o.fire) ++ o
                      :: ops.dropWhile (fun x => !isAfter x.fire o.fire) } })
    ∧ ((e.claim ≠ .none ∨ ∀ k, ¬s.Fits e k) →
      exec .decisionPoint s =
        .next
          { s with
            table :=
              s.table.map (fun x : Entry =>
                if x.id = e.id then { x with decided := true, decisionPoint := none } else x) })

/-- R112, R113, R99: a release makes the claim RELEASED_SELF and counts it; a CLAIM of the letter that waits with no attempt
in progress is withdrawn instead of queuing the RELEASE. R110, R111, R112, R137: a re-judgement tests the claimed pocket's
rule alone. A letter it no longer matches is released as REJUDGED and its ARMED operation leaves the list, the drive
untouched; nothing else moves a claim. R121: an entry's own operation, the first unconfirmed one with its letter ID by pocket
and then list order; that the tie ends at the confirm is the model's reading (log 20). R157: a CLAIM is found by kind and
letter ID. -/
def Obligations.ReleaseAndRejudgement : Prop :=
  (∀ (s : State) (id : LetterId),
    let untied (ops : List GateOp) : Prop := ∀ x ∈ ops, x.id = id → x.confirmed = true
    (s.ownOp id = none ↔ ∀ k, untied (s.pocket k).ops)
    ∧ ∀ k o, s.ownOp id = some (k, o) ↔
        (∀ j : Fin 4, j < k → untied (s.pocket j).ops)
          ∧ ∃ before after, (s.pocket k).ops = before ++ o :: after ∧ untied before ∧ o.id = id ∧ o.confirmed = false)
  ∧ (∀ (id : LetterId) (f : Frame), isClaimFor id f = true ↔ ∃ k, f = .claim id k)
  ∧ (∀ (s : State) (id : LetterId) (k : Fin 4) (reason : ReleaseReason),
      let t : State :=
        { s with
          table := s.table.map (fun x : Entry => if x.id = id then { x with claim := .releasedSelf } else x) }
      let waits := ∃ q ∈ s.line.queue, (∃ j, q.frame = .claim id j) ∧ q.inFlight = false
      (waits →
        s.releaseClaim id k reason =
          { t with
            line := { s.line with queue := s.line.queue.filter (fun q : QueuedFrame => !isClaimFor id q.frame) },
            counters := { s.counters with released := satInc s.counters.released } })
      ∧ (¬waits →
        s.releaseClaim id k reason =
          { t.enqueue (.release id k reason) with
            counters := { s.counters with released := satInc s.counters.released } }))
  ∧ (∀ (s : State) (id : LetterId) (e : Entry), s.entry id = some e →
      (s.ownOp id = none → s.rejudge id = s)
      ∧ (∀ k o, s.ownOp id = some (k, o) → (o.state ≠ .armed ∨ ruleMatches s.cfg (s.rule k) e = true) →
        s.rejudge id = s)
      ∧ (∀ k before o after, (∀ j : Fin 4, j < k → ∀ x ∈ (s.pocket j).ops, x.id = id → x.confirmed = true) →
        (s.pocket k).ops = before ++ o :: after → (∀ x ∈ before, x.id = id → x.confirmed = true) → o.id = id →
        o.confirmed = false → o.state = .armed → ruleMatches s.cfg (s.rule k) e = false →
        s.rejudge id =
          { s.releaseClaim id k .rejudged with
            pockets := s.pockets.set k { s.pocket k with ops := before ++ after } }))

/-! ### Gates and pockets -/

/-- R125: an ARMED operation whose fire point is reached fires; from OFF it starts a pull-in, and it joins a drive already on
in its phase. That of several the first in list order fires (log 21), and that the row also takes a fire point already passed
(log 3), are the model's choices. R126: a pull-in timer at 0 takes the drive into HOLDING with its on part, and every PULL_IN
operation becomes HOLD. R127: the parts of the chop follow each other. With time left on the timer, neither event can happen;
that PULL_IN_EXPIRY and CHOP_PART_EXPIRY then leave the state as it is, is the model's choice (log 4). R124, R127: GATEk is
active in PULLING and in the on part. -/
def Obligations.FirePointAndDriveTimers : Prop :=
  (∀ (s : State) (k : Fin 4) (before after : List GateOp) (o : GateOp), (s.pocket k).ops = before ++ o :: after →
      (∀ x ∈ before, ¬(x.state = .armed ∧ Reached s.tach.count (some x.fire))) → o.state = .armed →
      Reached s.tach.count (some o.fire) →
      ((s.pocket k).drive = .off →
        exec (.firePoint k) s =
          .next (s.withGate k (before ++ { o with state := .pullIn } :: after) (.pulling s.cfg.pullIn)))
      ∧ (∀ t, (s.pocket k).drive = .pulling t →
        exec (.firePoint k) s = .next (s.withGate k (before ++ { o with state := .pullIn } :: after) (.pulling t)))
      ∧ (∀ on t, (s.pocket k).drive = .holding on t →
        exec (.firePoint k) s = .next (s.withGate k (before ++ { o with state := .hold } :: after) (.holding on t))))
  ∧ (∀ (s : State) (k : Fin 4) (t : Word),
      ((s.pocket k).drive = .pulling t →
        (t = 0 →
          exec (.pullInExpiry k) s =
            .next
              (s.withGate k ((s.pocket k).ops.map (fun o => if o.state = .pullIn then { o with state := .hold } else o))
                (.holding true s.cfg.holdOn)))
        ∧ (t ≠ 0 → exec (.pullInExpiry k) s = .next s))
      ∧ ((s.pocket k).drive = .holding true t →
        (t = 0 → exec (.chopPartExpiry k) s = .next (s.withGate k (s.pocket k).ops (.holding false s.cfg.holdOff)))
        ∧ (t ≠ 0 → exec (.chopPartExpiry k) s = .next s))
      ∧ ((s.pocket k).drive = .holding false t →
        (t = 0 → exec (.chopPartExpiry k) s = .next (s.withGate k (s.pocket k).ops (.holding true s.cfg.holdOn)))
        ∧ (t ≠ 0 → exec (.chopPartExpiry k) s = .next s)))
  ∧ (∀ (s : State) (k : Fin 4),
      s.gateOut k = true ↔ (∃ t, (s.pocket k).drive = .pulling t) ∨ ∃ t, (s.pocket k).drive = .holding true t)

/-- R128: an active operation whose release point is reached ends if CONFIRMED and is TRAILING otherwise; the drive goes OFF
when no operation is active any more. That of several the first in list order is taken (log 21), and that the row also takes
a release point already passed (log 3), are the model's choices. R129: with its confirm close at the same position, an
unconfirmed operation misses in the same event. -/
def Obligations.ReleasePointEndsOrTrails : Prop :=
  ∀ (s : State) (k : Fin 4) (before after : List GateOp) (o : GateOp), (s.pocket k).ops = before ++ o :: after →
    (∀ x ∈ before, ¬((x.state = .pullIn ∨ x.state = .hold) ∧ Reached s.tach.count x.release)) →
    (o.state = .pullIn ∨ o.state = .hold) → Reached s.tach.count o.release →
    let others := (before ++ after).any (fun x => decide (x.state = .pullIn ∨ x.state = .hold))
    let drive : Drive := if others then (s.pocket k).drive else .off
    let t := s.withGate k (before ++ { o with state := .trailing } :: after) drive
    (o.confirmed = true → exec (.releasePoint k) s = .next (s.withGate k (before ++ after) drive))
    ∧ (o.confirmed = false → o.confirmClose ≠ o.release → exec (.releasePoint k) s = .next t)
    ∧ (o.confirmed = false → o.confirmClose = o.release →
      exec (.releasePoint k) s = .next (t.miss k { o with state := .trailing }))

/-- R134 to R136, R120: a TRAILING operation whose confirm close is reached misses and leaves the list; that of several the
first in list order is taken (log 21), and that the row also takes a close already passed (log 3), are the model's choices, and
which operation is an entry's own is its reading (log 20). For a letter placed elsewhere the entry is removed, and nothing
is sent or counted. An ordinary miss releases the letter as MISS (R112), counts the miss, at 3 sets the fault flag, forms the
pocket state anew, and leaves the entry to retire later, or, with its retirement point reached and no own operation left,
retires it within the event (R77, step 3 of R135). -/
def Obligations.ConfirmCloseMisses : Prop :=
  ∀ (s : State) (k : Fin 4) (before after : List GateOp) (o : GateOp), (s.pocket k).ops = before ++ o :: after →
    (∀ x ∈ before, ¬(x.state = .trailing ∧ x.confirmed = false ∧ Reached s.tach.count x.confirmClose)) →
    o.state = .trailing → o.confirmed = false → Reached s.tach.count o.confirmClose →
    let p := s.pocket k
    let elsewhere := o.lateClaim = true ∨ ∃ e, s.entry o.id = some e ∧ e.divertedHeard = true
    let misses : BitVec 2 := if p.missCount = 3 then 3 else p.missCount + 1
    let missed : Pocket := { p with missCount := misses, fault := p.fault || misses == 3, ops := before ++ after }
    let t :=
      (s.releaseClaim o.id k .miss).withPocket k (missed.formed (s.rule k) (s.pins.pswap.get k) (s.pins.pfull.get k))
    (elsewhere → exec (.confirmClose k) s = .next ((s.withGate k (before ++ after) p.drive).removeEntry o.id))
    ∧ (¬elsewhere →
      ((∀ e, s.entry o.id = some e → e.presence = .passed → ¬Reached s.tach.count e.retirement) ∨ t.ownOp o.id ≠ none →
        exec (.confirmClose k) s = .next t)
      ∧ (∀ e, s.entry o.id = some e → e.presence = .passed → Reached s.tach.count e.retirement → t.ownOp o.id = none →
        exec (.confirmClose k) s = .next (t.afterRetirement { e with claim := .releasedSelf })))

/-- R115, R116, R130 to R132: an entry edge of a pocket that is not OFF counts in the tally, up to 65535. It confirms the
first fired, unconfirmed operation in list order: the miss count is 0, DIVERTED carries the new tally, the diverted counter
rises, the entry is removed; a TRAILING operation ends, another stays CONFIRMED. Without one the edge is a stray, and
DIVERT_ANOMALY is latched. At a pocket that is OFF, and in RESET, LOADING and HALTED, the edge is not taken. -/
def Obligations.EntryEdgeConfirmsOrStrays : Prop :=
  (∀ (s : State) (k : Fin 4), s.joined = false ∨ (s.pocket k).state = .off → exec (.pentryEdge k) s = .next s)
  ∧ (∀ s : State, s.joined = false ↔ s.runState = .reset ∨ s.runState = .loading ∨ s.runState = .halted)
  ∧ ∀ (s : State) (k : Fin 4), s.joined = true → (s.pocket k).state ≠ .off →
    let p := s.pocket k
    let tally : Word := if p.tally = 65535 then 65535 else p.tally + 1
    let counted : Pocket := ({ p with tally := tally } : Pocket).formed (s.rule k) (s.pins.pswap.get k) (s.pins.pfull.get k)
    ((∀ x ∈ p.ops, x.state = .armed ∨ x.confirmed = true) →
      exec (.pentryEdge k) s = .next ((s.withPocket k counted).latch .divertAnomaly))
    ∧ (∀ (before after : List GateOp) (o : GateOp), p.ops = before ++ o :: after →
      (∀ x ∈ before, x.state = .armed ∨ x.confirmed = true) → o.state ≠ .armed → o.confirmed = false →
      let t :=
        s.withPocket k
          { counted with
            missCount := 0,
            ops :=
              if o.state = .trailing then before ++ after else before ++ { o with confirmed := true } :: after }
      exec (.pentryEdge k) s =
        .next
          (State.removeEntry
            { t.enqueue (.diverted o.id k tally) with
              counters := { s.counters with diverted := satInc s.counters.diverted } }
            o.id))

/-- R114, R115, R117, R119: which state a pocket has, by the first test that holds; a change of PFULL and the end of a swap
form the state of a pocket that is not OFF anew, the end of a swap clearing tally, miss count and fault flag first. Where the
input is not taken, the level of the pin changes and nothing else. POCKET_FAULT and POCKET_FULL follow the states. -/
def Obligations.PocketInputsFormState : Prop :=
  (∀ (rule : PocketRule) (swap full fault : Bool) (tally : Word),
    formedState rule swap full fault tally =
      (if rule.kind = .off then .off
       else if swap = true then .out
       else if fault = true then .fault
       else if full = true ∨ (rule.tallyLimit ≠ 0 ∧ rule.tallyLimit.toNat ≤ tally.toNat) then .full
       else .ready))
  ∧ (∀ (ps : PerPocket Pocket) (x : Conditions),
    pocketConditions ps x =
      (x.setTo .pocketFault (decide (∃ k, (ps.get k).state = .fault))).setTo .pocketFull
        (decide (∃ k, (ps.get k).state = .full ∨ (ps.get k).state = .out)))
  ∧ ∀ (s : State) (k : Fin 4),
      let p := s.pocket k
      (∀ active, s.pins.pfull.get k ≠ active →
        let t : State := { s with pins := { s.pins with pfull := s.pins.pfull.set k active } }
        (s.joined = true → p.state ≠ .off →
          exec (.pfullChange k active) s =
            .next (t.withPocket k (p.formed (s.rule k) (s.pins.pswap.get k) active)))
        ∧ (s.joined = false ∨ p.state = .off → exec (.pfullChange k active) s = .next t))
      ∧ (s.pins.pswap.get k = true →
        let t : State := { s with pins := { s.pins with pswap := s.pins.pswap.set k false } }
        let emptied : Pocket := { p with tally := 0, missCount := 0, fault := false }
        (s.joined = true → p.state ≠ .off →
          exec (.pswapInactive k) s =
            .next (t.withPocket k (emptied.formed (s.rule k) false (s.pins.pfull.get k))))
        ∧ (s.joined = false ∨ p.state = .off → exec (.pswapInactive k) s = .next t))

/-- R118, R137: a swap forms the pocket's state anew (OUT, unless its rule is OFF); its ARMED operations leave the list and
their letters are released as SWAP, in list order (R112); fired operations and the drive stay. Where the input is not taken,
the level of the pin changes and nothing else. -/
def Obligations.SwapCancelsArmedOperations : Prop :=
  ∀ (s : State) (k : Fin 4), s.pins.pswap.get k = false →
    let p := s.pocket k
    let t : State := { s with pins := { s.pins with pswap := s.pins.pswap.set k true } }
    (s.joined = true → p.state ≠ .off → (∀ o ∈ p.ops, o.state = .armed → o.confirmed = false) →
      let u := t.withPocket k (p.formed (s.rule k) true (s.pins.pfull.get k))
      let armed := p.ops.filter (fun o => decide (o.state = .armed))
      let fired := p.ops.filter (fun o => decide (o.state ≠ .armed))
      exec (.pswapActive k) s =
        .next
          ((armed.foldl (fun v o => v.releaseClaim o.id k .swap) u).withGate k fired p.drive))
    ∧ (s.joined = false ∨ p.state = .off → exec (.pswapActive k) s = .next t)

/-! ### Conditions -/

/-- R184, R187, R185: a change of a condition's value sets its delta bit and removes that delta's mark, and touches no other
condition; the cause of a latched condition removes its mark, and sets the delta bit and removes the delta's mark only if the
condition was not set; a STATUS attempt marks what is set; its acknowledge clears what is still marked. Section 10.2: the
ranks, bit i - 1 of a map standing for rank i. ALERT follows the alert mask, JAMOUT the run state. -/
def Obligations.ConditionsSetDeltasAndMarks : Prop :=
  ([Condition.jammed, .dupStation, .positionClash, .pocketFault, .isolated, .tableFull, .pocketFull, .readRateLow,
      .divertAnomaly, .lineDiscard, .configClamped, .pocketDisabled].map conditionRank
    = [1, 2, 3, 4, 5, 6, 7, 8, 9, 10, 11, 12])
  ∧ (∀ (x : Conditions) (d : Condition), x.isActive d = x.active.getLsbD (conditionRank d - 1))
  ∧ (∀ (s : State) (d : Condition), s.latch d = { s with conditions := s.conditions.latch d })
  ∧ (∀ (x : Conditions) (c d : Condition) (v : Bool),
    let y := x.setTo c v
    let z := x.latch c
    let bit := conditionRank d - 1
    (y.isActive d = if d = c then v else x.isActive d)
    ∧ (y.deltas.getLsbD bit = (x.deltas.getLsbD bit || (d == c && x.isActive c != v)))
    ∧ (y.markedDeltas.getLsbD bit = (x.markedDeltas.getLsbD bit && !(d == c && x.isActive c != v)))
    ∧ y.markedLatched = x.markedLatched
    ∧ (z.isActive d = if d = c then true else x.isActive d)
    ∧ (z.markedLatched.getLsbD bit = (x.markedLatched.getLsbD bit && !(d == c)))
    ∧ (z.deltas.getLsbD bit = (x.deltas.getLsbD bit || (d == c && !x.isActive c)))
    ∧ (z.markedDeltas.getLsbD bit = (x.markedDeltas.getLsbD bit && !(d == c && !x.isActive c)))
    ∧ x.markReported.active = x.active ∧ x.markReported.deltas = x.deltas
    ∧ x.markReported.markedDeltas.getLsbD bit = x.deltas.getLsbD bit
    ∧ (x.markReported.markedLatched.getLsbD bit =
        (x.isActive d
          && (d == .dupStation || d == .positionClash || d == .tableFull || d == .divertAnomaly || d == .lineDiscard)))
    ∧ (x.clearReported.isActive d = (x.isActive d && !x.markedLatched.getLsbD bit))
    ∧ (x.clearReported.deltas.getLsbD bit = (x.deltas.getLsbD bit && !x.markedDeltas.getLsbD bit))
    ∧ x.clearReported.markedLatched = 0 ∧ x.clearReported.markedDeltas = 0)
  ∧ ∀ s : State,
      (s.runState = .reset → s.alertOut = false) ∧ (s.runState = .halted → s.alertOut = true)
      ∧ (s.runState ≠ .reset → s.runState ≠ .halted →
        (s.alertOut = true ↔ ∃ i < 16, s.conditions.active.getLsbD i = true ∧ s.cfg.alertMask.getLsbD i = true))
      ∧ (s.jamOut = true ↔ s.runState = .jammed)

/-! ### The track line: sending -/

/-- R141, R147, R142, R187: at bus free an empty queue leaves the line free; otherwise its head becomes the frame in flight,
SOF_tach is latched, a STATUS marks what it reports, and the bytes of the attempt are formed. That the start-of-frame edge of
an own attempt, and with it the latch of SOF_tach, is part of this event is the model's reading (log 12). A SIGHT whose age
exceeds 16383 is withdrawn and discarded instead, and the station follows the frame as a receiver. -/
def Obligations.BusFreeStartsAttempt : Prop :=
  ∀ s : State, s.line.state = .waitFree →
    (s.line.queue = [] →
      exec .busFree s = .next { s with line := { s.line with state := .free, ackDriven := false } })
    ∧ (∀ f rest, s.line.queue = f :: rest →
      ((∀ id a len, f.frame = .sight id a len → (s.tach.count - a).toNat ≤ 16383) →
        let c := if f.frame = .status then s.conditions.markReported else s.conditions
        exec .busFree s =
          .next
            { s with
              conditions := c,
              line :=
                { s.line with
                  state := .inFrame .sender, sofTach := s.tach.count, ackDriven := false,
                  sending := attemptBytes s c (ageAt s.tach.count f.frame) s.line.discards f.frame,
                  queue := { f with inFlight := true } :: rest } })
      ∧ (∀ id a len, f.frame = .sight id a len → 16383 < (s.tach.count - a).toNat →
        exec .busFree s =
          .next
            (State.discardCounted
              { s with
                line :=
                  { s.line with
                    state := .inFrame .receiver, sofTach := s.tach.count, ackDriven := false, sending := [],
                    queue := rest } })))

/-- R144, R145, R147, R186 and the layouts of section 8.6: the header and body bytes of the attempts of every kind of frame
this station sends, each followed by its CRC byte. The age of a SIGHT is the count at the start of frame less A. R143: the
cells of the attempt, a stuff cell after every seventh 1 cell in a row; a receiver that reads them all finds the frame well
formed (R146). R148 to R150: the row that the levels read back call for; the first eight cells are byte 0, since no byte 0
this station sends has seven 1 cells before its last. That a misread of the stuff cell due after the last CRC cell is a bit
error is the model's reading (log 29); that the start cell is not among the cells read back is its choice (log 30). R145: the
CRC byte bit by bit; R186: the top rank is the smallest active one. -/
def Obligations.AttemptBytesFollowLayout : Prop :=
  (∀ data : List Byte,
    let bits :=
      data.flatMap (fun b =>
        [b.getLsbD 7, b.getLsbD 6, b.getLsbD 5, b.getLsbD 4, b.getLsbD 3, b.getLsbD 2, b.getLsbD 1, b.getLsbD 0])
    bytesBits data = bits
    ∧ crc8 data =
        bits.foldl (fun (reg : Byte) bit => if reg.getLsbD 7 = bit then reg <<< 1 else (reg <<< 1) ^^^ 0x07#8) 0xFF#8)
  ∧ (∀ c : Conditions,
    ((∀ i, i < 12 → c.active.getLsbD i = false) → c.topRank = 0)
    ∧ ∀ i, i < 12 → c.active.getLsbD i = true → (∀ j, j < i → c.active.getLsbD j = false) → c.topRank = i + 1)
  ∧ (∀ (count : Pos) (f : Frame), (∀ id a len, f ≠ .sight id a len) → ageAt count f = 0)
  ∧ (∀ (s : State) (c : Conditions) (d : Byte) (id : LetterId) (a : Pos) (len tally crc : Word) (k : Fin 4) (n : Nat),
    let hi (w : Word) : Byte := BitVec.ofNat 8 (w.toNat / 256)
    let lo (w : Word) : Byte := BitVec.ofNat 8 (w.toNat % 256)
    let first (kind : Nat) : Byte := BitVec.ofNat 8 (16 * kind + s.straps.station.toNat)
    let roles : Byte :=
      BitVec.ofNat 8
        ((if s.cfg.tail then 128 else 0) + (if s.cfg.scanner then 64 else 0) + s.cfg.position.toNat / 256)
    let last : Byte := BitVec.ofNat 8 (s.cfg.position.toNat % 256)
    let id0 : Byte := BitVec.ofNat 8 (16 * id.origin.toNat + id.seq.toNat / 256)
    let id1 : Byte := BitVec.ofNat 8 (id.seq.toNat % 256)
    let age := ageAt s.tach.count (.sight id a len)
    let pocketCode (p : PocketState) : Nat :=
      match p with
      | .off => 0
      | .ready => 1
      | .full => 2
      | .out => 2
      | .fault => 3
    let codeByte (x : Code) (i : Nat) : Byte := BitVec.ofNat 8 (x.toNat / 256 ^ (5 - i) % 256)
    let sixBytes (x : Code) : List Byte :=
      [codeByte x 0, codeByte x 1, codeByte x 2, codeByte x 3, codeByte x 4, codeByte x 5]
    let whole (data : List Byte) := data ++ [crc8 data]
    age.toNat = (s.tach.count.toNat + 65536 - a.toNat) % 65536
    ∧ attemptBytes s c age d (.sight id a len)
        = whole [first 5, 6, roles, last, id0, id1, hi age, lo age, hi len, lo len]
    ∧ attemptBytes s c 0 d (.diverted id k tally)
        = whole [first 4, 5, roles, last, id0, id1, BitVec.ofNat 8 k.val, hi tally, lo tally]
    ∧ attemptBytes s c 0 d .status
        = whole
            [first 10, 12, roles, last, BitVec.ofNat 8 c.topRank, hi c.active, lo c.active, hi c.deltas, lo c.deltas,
              BitVec.ofNat 8
                (64 * pocketCode (s.pocket 3).state + 16 * pocketCode (s.pocket 2).state
                  + 4 * pocketCode (s.pocket 1).state + pocketCode (s.pocket 0).state),
              BitVec.ofNat 8 s.table.length, d, hi s.counters.goodReads, lo s.counters.goodReads,
              hi s.counters.failedReads, lo s.counters.failedReads]
    ∧ attemptBytes s c 0 d (.join n crc) = whole [first 11, 3, roles, last, BitVec.ofNat 8 n, hi crc, lo crc]
    ∧ (∀ reason,
        attemptBytes s c 0 d (.jam reason)
          = whole
              [first 0, 1, roles, last,
                match reason with
                | .ownPhotocell => 0
                | .stop => 1
                | .clearRefused => 2])
    ∧ attemptBytes s c 0 d .clear = whole [first 1, 0, roles, last]
    ∧ attemptBytes s c 0 d (.claim id k) = whole [first 2, 3, roles, last, id0, id1, BitVec.ofNat 8 k.val]
    ∧ (∀ reason,
        attemptBytes s c 0 d (.release id k reason)
          = whole
              [first 3, 4, roles, last, id0, id1, BitVec.ofNat 8 k.val,
                match reason with
                | .miss => 0
                | .swap => 1
                | .rejudged => 2])
    ∧ (∀ code votes runnerUp quality direction sweeps,
        attemptBytes s c 0 d (.read ⟨id, .good code votes runnerUp quality direction, sweeps⟩)
          = whole
              ([first 6, 11, roles, last, id0, id1,
                  match direction with
                  | .forward => 64
                  | .reverse => 72,
                  BitVec.ofNat 8 quality.toNat, sweeps]
                ++ sixBytes code))
    ∧ (∀ reason sweeps,
        attemptBytes s c 0 d (.read ⟨id, .failed reason, sweeps⟩)
          = whole
              [first 6, 5, roles, last, id0, id1,
                match reason with
                | .noRun => 128
                | .noDecode => 144
                | .tooFew => 160
                | .tie => 176,
                0, sweeps])
    ∧ attemptBytes s c 0 d (.lost id) = whole [first 7, 2, roles, last, id0, id1]
    ∧ (∀ state,
        let stateCode : Byte :=
          match state with
          | .unread => 0
          | .failed => 1
          | .settled => 2
          | .conflict => 3
        attemptBytes s c 0 d (.runout id state none) = whole [first 8, 3, roles, last, id0, id1, stateCode]
        ∧ ∀ code,
            attemptBytes s c 0 d (.runout id state (some code))
              = whole ([first 8, 9, roles, last, id0, id1, stateCode] ++ sixBytes code)))
  ∧ (∀ (s : State) (c : Conditions) (age : Word) (d : Byte) (f : Frame),
      judgeCells (stuffCells 0 (bytesBits (attemptBytes s c age d f))) = .wellFormed (attemptBytes s c age d f).dropLast)
  ∧ (∀ bits : List Bool,
      ¬List.replicate 8 true <:+: stuffCells 0 bits
      ∧ stuffCells 0 (List.replicate 7 true ++ bits) = List.replicate 7 true ++ false :: stuffCells 0 bits
      ∧ ∀ n, n < 7 →
          stuffCells 0 (List.replicate n true) = List.replicate n true
          ∧ stuffCells 0 (List.replicate n true ++ false :: bits)
              = List.replicate n true ++ false :: stuffCells 0 bits)
  ∧ ∀ s : State,
      (s.line.state ≠ .inFrame .sender → s.tlCells = none ∧ ∀ levels, s.attemptRow levels = none)
      ∧ (s.line.state = .inFrame .sender →
        let cells := stuffCells 0 (bytesBits s.line.sending)
        s.tlCells = some cells ∧ s.attemptRow cells = none
        ∧ (∀ ack later, s.attemptRow (cells ++ ack :: later) = some (.attemptEnd (!ack)))
        ∧ ∀ before sent after, cells = before ++ sent :: after →
            s.attemptRow before = none
            ∧ ∀ later,
                s.attemptRow (before ++ (!sent) :: later)
                  = some (if before.length < 8 ∧ sent = true then .arbitrationLost else .bitError))

/-- R141, R142: a falling edge is accepted as a start of frame when the line is free, or after at least 11 cell times of
high; SOF_tach is latched and the station is a receiver. An earlier one is ignored. R146: a broken frame leaves the receiver
waiting for bus free. Its three causes: a 1 in a stuff cell within the frame breaks it at that cell, as do eight 1 cells after
the start cell; a body length above 12; and a CRC byte other than the one of R145. -/
def Obligations.StartOfFrameAndBrokenFrame : Prop :=
  (∀ (s : State) (highCells : Nat),
    (s.line.state = .free ∨ (s.line.state = .waitFree ∧ 11 ≤ highCells) →
      exec (.startOfFrame highCells) s =
        .next
          { s with
            line := { s.line with state := .inFrame .receiver, sofTach := s.tach.count, ackDriven := false } })
    ∧ (s.line.state = .waitFree → highCells < 11 → exec (.startOfFrame highCells) s = .next s))
  ∧ (∀ (s : State) (cells : List Bool), WellFormed (.brokenFrame cells) = true → s.line.state = .inFrame .receiver →
      exec (.brokenFrame cells) s = .next { s with line := { s.line with state := .waitFree } })
  ∧ (∀ rest : List Bool, judgeCells (List.replicate 8 true ++ rest) = .broken .stuffError)
  ∧ (∀ (b0 n b2 b3 crc : Byte) (body : List Byte), n.toNat ≤ 12 → body.length = n.toNat →
      let data := b0 :: n :: b2 :: b3 :: body
      let cells := stuffCells 0 (bytesBits (data ++ [crc]))
      (crc ≠ crc8 data → judgeCells cells = .broken .crcMismatch)
      ∧ ∀ before after rest, cells = before ++ List.replicate 7 true ++ false :: after → after ≠ [] →
          judgeCells (before ++ List.replicate 7 true ++ true :: rest) = .broken .stuffError)
  ∧ (∀ (b0 n b2 b3 : Byte) (body : List Byte), 12 < n.toNat →
      judgeCells (frameCells (b0 :: n :: b2 :: b3 :: body)) = .broken .bodyLength)

/-- R153, R154, R155: what enqueuing a frame on a line that is not free does: its place by kind code, the frame that gives
way at a full queue, the discard of the new frame, the replaced STATUS, the dropped JOIN. R141, R147: on a free line with an
empty queue the frame, unless it is a stale SIGHT, is in flight at once; that its start-of-frame edge, and with it the latch
of SOF_tach, is part of the enqueuing event is the model's reading (log 12). A queued frame starts with attempt count 0, a
SIGHT with its stale point at A + 16384 (R156); the kind codes are those of R162. -/
def Obligations.EnqueueKeepsOrder : Prop :=
  ∀ (s : State) (f : Frame),
    let fresh : QueuedFrame :=
      { frame := f, attempts := 0, inFlight := false, staleReached := false, replaced := false,
        stalePoint :=
          match f with
          | .sight _ a _ => some (a + 16384#16)
          | _ => none }
    let place (q : List QueuedFrame) : List QueuedFrame :=
      q.takeWhile (fun x => decide (frameKind x.frame ≤ frameKind f)) ++ fresh
        :: q.dropWhile (fun x => decide (frameKind x.frame ≤ frameKind f))
    let statusMeetsStatus := f = .status ∧ ∃ q ∈ s.line.queue, q.frame = .status
    let joinMeetsJoin := (∃ n crc, f = .join n crc) ∧ ∃ q ∈ s.line.queue, ∃ n crc, q.frame = .join n crc
    let marked := if f = .status then s.conditions.markReported else s.conditions
    newQueued f = fresh
    ∧ frameKind f =
        (match f with
          | .jam _ => 0
          | .clear => 1
          | .claim _ _ => 2
          | .release _ _ _ => 3
          | .diverted _ _ _ => 4
          | .sight _ _ _ => 5
          | .read _ => 6
          | .lost _ => 7
          | .runout _ _ _ => 8
          | .status => 10
          | .join _ _ => 11)
    ∧ (s.line.state ≠ .free →
      (statusMeetsStatus →
        s.enqueue f =
          { s with
            line :=
              { s.line with
                queue :=
                  s.line.queue.map (fun q : QueuedFrame =>
                    if q.frame = .status then { q with attempts := 0, replaced := q.inFlight } else q) } })
      ∧ (joinMeetsJoin → s.enqueue f = s)
      ∧ (¬statusMeetsStatus → ¬joinMeetsJoin →
        (s.line.queue.length < 8 → s.enqueue f = { s with line := { s.line with queue := place s.line.queue } })
        ∧ (8 ≤ s.line.queue.length → ∀ before d after, s.line.queue = before ++ d :: after → d.inFlight = false →
          frameKind f < frameKind d.frame →
          (∀ q ∈ s.line.queue, q.inFlight = false → frameKind q.frame ≤ frameKind d.frame) →
          (∀ q ∈ after, q.inFlight = false → frameKind q.frame < frameKind d.frame) →
          s.enqueue f =
            State.discardCounted { s with line := { s.line with queue := place (before ++ after) } })
        ∧ (8 ≤ s.line.queue.length → (∀ q ∈ s.line.queue, q.inFlight = false → frameKind q.frame ≤ frameKind f) →
          s.enqueue f = s.discardCounted)))
    ∧ (s.line.state = .free → s.line.queue = [] →
      ((∀ id a len, f = .sight id a len → (s.tach.count - a).toNat ≤ 16383) →
        s.enqueue f =
          { s with
            conditions := marked,
            line :=
              { s.line with
                state := .inFrame .sender, sofTach := s.tach.count, ackDriven := false,
                sending := attemptBytes s marked (ageAt s.tach.count f) s.line.discards f,
                queue := [{ fresh with inFlight := true }] } })
      ∧ ∀ id a len, f = .sight id a len → 16383 < (s.tach.count - a).toNat →
          s.enqueue f =
            State.discardCounted
              { s with
                line :=
                  { s.line with
                    state := .inFrame .receiver, sofTach := s.tach.count, ackDriven := false, sending := [],
                    queue := [] } })

/-- R148, R156: a lost arbitration makes the sender a receiver, its frame staying with its attempt count unless its stale
point was reached, which discards it. That a STATUS replaced in flight is then no longer marked replaced is the model's
reading (log 11). R156: a queued SIGHT whose stale point is reached is discarded, or, in flight, goes on and is marked; of
several, the first in the queue. That the row also takes a point already passed is the model's choice (log 3). -/
def Obligations.LostArbitrationAndStaleSight : Prop :=
  (∀ s : State, s.line.state = .inFrame .sender →
    let t : State := { s with line := { s.line with state := .inFrame .receiver, sending := [] } }
    ((∀ q ∈ s.line.queue, q.inFlight = false) → exec .arbitrationLost s = .next t)
    ∧ ∀ before f after, s.line.queue = before ++ f :: after → f.inFlight = true →
        (∀ q ∈ before ++ after, q.inFlight = false) →
        (f.staleReached = false →
          exec .arbitrationLost s =
            .next
              { t with
                line :=
                  { t.line with queue := before ++ { f with inFlight := false, replaced := false } :: after } })
        ∧ (f.staleReached = true →
          exec .arbitrationLost s =
            .next (State.discardCounted { t with line := { t.line with queue := before ++ after } })))
  ∧ (∀ (s : State) (before after : List QueuedFrame) (f : QueuedFrame), s.line.queue = before ++ f :: after →
      (∀ q ∈ before, ¬(Reached s.tach.count q.stalePoint ∧ q.staleReached = false)) →
      Reached s.tach.count f.stalePoint → f.staleReached = false →
      (f.inFlight = false →
        exec .sightStalePoint s =
          .next (State.discardCounted { s with line := { s.line with queue := before ++ after } }))
      ∧ (f.inFlight = true →
        exec .sightStalePoint s =
          .next
            { s with line := { s.line with queue := before ++ { f with staleReached := true } :: after } }))

/-- R149 to R151, R155 to R157, R176: an attempt that ends in a bit error or without acknowledge. A frame that has been
withdrawn is not retried. One whose count was 0 or 1 stays with its count raised; the third discards it with ISOLATED, which
for a JOIN ends JOINING; a SIGHT whose stale point was reached is discarded, and at its third attempt with one discard and
ISOLATED set, which is the model's reading (log 10); a replaced STATUS stays with count 0. -/
def Obligations.FailedAttemptIsCounted : Prop :=
  ∀ (s : State) (c : Instr), s.line.state = .inFrame .sender → (c = .bitError ∨ c = .attemptEnd false) →
    ((∀ q ∈ s.line.queue, q.inFlight = false) → exec c s = .next (s.afterAttempt s.line.queue))
    ∧ ∀ before f after, s.line.queue = before ++ f :: after → f.inFlight = true →
        (∀ q ∈ before ++ after, q.inFlight = false) →
        let kept (n : Nat) :=
          s.afterAttempt (before ++ { f with inFlight := false, replaced := false, attempts := n } :: after)
        let gone := s.afterAttempt (before ++ after)
        (f.replaced = true → exec c s = .next (kept 0))
        ∧ (f.replaced = false → f.attempts ≤ 1 → f.staleReached = false → exec c s = .next (kept (f.attempts + 1)))
        ∧ (f.replaced = false → f.attempts ≤ 1 → f.staleReached = true → exec c s = .next gone.discardCounted)
        ∧ (f.replaced = false → 2 ≤ f.attempts →
          let t := State.discardCounted { gone with conditions := s.conditions.setTo .isolated true }
          ((¬∃ n crc, f.frame = .join n crc) → exec c s = .next t)
          ∧ ((∃ n crc, f.frame = .join n crc) →
            exec c s = .next { t with runState := if s.runState = .joining then .running else s.runState }))

/-- R151, R155, R157, R176, R187: an acknowledged attempt clears ISOLATED and its frame leaves the queue. A STATUS clears
what it reported and, replaced in flight, is queued anew; a JOIN ends JOINING. -/
def Obligations.AcknowledgedAttemptLeavesQueue : Prop :=
  ∀ s : State, s.line.state = .inFrame .sender →
    let c := s.conditions.setTo .isolated false
    ((∀ q ∈ s.line.queue, q.inFlight = false) →
      exec (.attemptEnd true) s = .next { s.afterAttempt s.line.queue with conditions := c })
    ∧ ∀ before f after, s.line.queue = before ++ f :: after → f.inFlight = true →
        (∀ q ∈ before ++ after, q.inFlight = false) →
        let gone := s.afterAttempt (before ++ after)
        (f.frame ≠ .status → (¬∃ n crc, f.frame = .join n crc) →
          exec (.attemptEnd true) s = .next { gone with conditions := c })
        ∧ (f.frame = .status → f.replaced = false →
          exec (.attemptEnd true) s = .next { gone with conditions := c.clearReported })
        ∧ (f.frame = .status → f.replaced = true →
          exec (.attemptEnd true) s =
            .next (State.enqueue { gone with conditions := c.clearReported } .status))
        ∧ ((∃ n crc, f.frame = .join n crc) →
          exec (.attemptEnd true) s =
            .next { gone with conditions := c, runState := if s.runState = .joining then .running else s.runState })

/-! ### The track line: receiving -/

/-- R150, R160, R161, R177, R162, and the run-state and upstream tests of the letter frames (R57, R75, R76, R87, R106, R109):
a well-formed frame is acknowledged; own number and own position latch DUP_STATION and POSITION_CLASH and end it; a JOIN does
nothing more, nor does an ignored frame of any kind, one of an owned kind with a body length the kind does not allow among
them; nor does a JAM outside RUNNING, or a letter frame outside RUNNING or from a sender that is not upstream. While an
attempt of this station is on the line the owning blocks can take a frame in an event of their own, which changes nothing in
the same cases, nor for a SIGHT (log 28: R107, R113, R155, R157). A station that is neither receiver nor sender takes no
frame (log 4). -/
def Obligations.ReceivedFramesAreAcknowledgedAndTested : Prop :=
  (∀ (s : State) (c : Instr) (kind : BitVec 4) (h : Header) (body : List Byte), frameOf c = some (kind, h, body) →
    WellFormed c = true →
    let acked : State := { s with line := { s.line with state := .waitFree, ackDriven := true } }
    let notUpstream := s.runState ≠ .running ∨ s.cfg.position.toNat ≤ h.position.toNat
    (s.line.state ≠ .inFrame .receiver → s.line.state ≠ .inFrame .sender → exec c s = .next s)
    ∧ (s.line.state = .inFrame .sender →
      (h.station = s.straps.station ∨ h.position = s.cfg.position ∨ (2 ≤ kind.toNat ∧ kind.toNat ≤ 7 ∧ notUpstream)
        ∨ (kind = 0 ∧ s.runState ≠ .running) ∨ kind = 5 ∨ kind = 8 ∨ 10 ≤ kind.toNat
        ∨ c = .ignoredFrameReceived h kind body) →
      exec c s = .next s)
    ∧ (s.line.state = .inFrame .receiver →
      (h.station = s.straps.station → h.position ≠ s.cfg.position →
        exec c s = .next (acked.latch .dupStation))
      ∧ (h.station ≠ s.straps.station → h.position = s.cfg.position →
        exec c s = .next (acked.latch .positionClash))
      ∧ (h.station = s.straps.station → h.position = s.cfg.position →
        exec c s = .next ((acked.latch .dupStation).latch .positionClash))
      ∧ (h.station ≠ s.straps.station → h.position ≠ s.cfg.position →
        ((kind = 11 ∨ 12 ≤ kind.toNat ∨ kind = 8 ∨ kind = 10 → exec c s = .next acked)
        ∧ (kind = 0 → s.runState ≠ .running → exec c s = .next acked)
        ∧ (2 ≤ kind.toNat → kind.toNat ≤ 7 → notUpstream → exec c s = .next acked)))))
  ∧ ∀ (s : State) (h : Header), s.line.state = .inFrame .receiver →
      let acked : State := { s with line := { s.line with state := .waitFree, ackDriven := true } }
      let numbered := if h.station = s.straps.station then acked.latch .dupStation else acked
      let tested := if h.position = s.cfg.position then numbered.latch .positionClash else numbered
      (∀ pockets crc, exec (.joinReceived h pockets crc) s = .next tested)
      ∧ ∀ kind body, WellFormed (.ignoredFrameReceived h kind body) = true →
          exec (.ignoredFrameReceived h kind body) s = .next tested

/-- R106, R107, R108: what a CLAIM of an upstream station does, by the entry's claim and the state of its operation, at a
receiver and while an attempt of this station is on the line (log 28). R107, R157: an attempt of the own CLAIM that is then on
the line completes: its frame is gone, its failure is not retried and discards nothing, its acknowledge clears ISOLATED. Which
operation is the entry's own is the model's reading (log 20). -/
def Obligations.ClaimReceivedFromUpstream : Prop :=
  ∀ (s t : State) (h : Header) (id : LetterId) (pocket : Byte), s.HandsLetterOn h t →
    let withClaim (u : State) (c : Claim) : State :=
      { u with table := s.table.map (fun x : Entry => if x.id = id then { x with claim := c } else x) }
    (s.entry id = none → exec (.claimReceived h id pocket) s = .next t)
    ∧ ∀ e, s.entry id = some e →
        (e.claim = .none → exec (.claimReceived h id pocket) s = .next (withClaim t (.peer h.station pocket)))
        ∧ (e.claim.isPeer = true ∨ e.claim = .releasedSelf → exec (.claimReceived h id pocket) s = .next t)
        ∧ (∀ k j before o after, e.claim = .own k →
          (∀ i : Fin 4, i < j → ∀ x ∈ (s.pocket i).ops, x.id = id → x.confirmed = true) →
          (s.pocket j).ops = before ++ o :: after → (∀ x ∈ before, x.id = id → x.confirmed = true) → o.id = id →
          o.confirmed = false →
          (o.state = .armed →
            exec (.claimReceived h id pocket) s =
              .next
                ((withClaim (t.withGate j (before ++ after) (s.pocket j).drive) (.peer h.station pocket)).withdrawClaim
                  id))
          ∧ (o.state ≠ .armed →
            exec (.claimReceived h id pocket) s =
              .next
                ((t.withGate j (before ++ { o with lateClaim := true } :: after) (s.pocket j).drive).latch
                  .divertAnomaly))
          ∧ (o.state = .armed → s.line.state = .inFrame .sender →
            (∀ q ∈ s.line.queue, q.inFlight = true → ∃ i, q.frame = .claim id i) →
            let moved := withClaim (s.withGate j (before ++ after) (s.pocket j).drive) (.peer h.station pocket)
            let left := s.line.queue.filter (fun q : QueuedFrame => !isClaimFor id q.frame)
            let u : State := { moved with line := { s.line with queue := left } }
            exec (.claimReceived h id pocket) s = .next u
            ∧ exec (.attemptEnd false) u = .next (u.afterAttempt left)
            ∧ exec .bitError u = .next (u.afterAttempt left)
            ∧ exec (.attemptEnd true) u
                = .next { u.afterAttempt left with conditions := s.conditions.setTo .isolated false }))

/-- R109: a RELEASE from the recorded claimer for the recorded pocket returns the claim to NONE; any other is ignored. R75: a
LOST from upstream removes an EXPECTED entry and marks an arrived one. Both at a receiver and while an attempt of this station
is on the line (log 28). -/
def Obligations.ReleaseAndLostReceived : Prop :=
  ∀ (s t : State) (h : Header) (id : LetterId), s.HandsLetterOn h t →
    (∀ pocket reason,
      (s.entry id = none → exec (.releaseReceived h id pocket reason) s = .next t)
      ∧ ∀ e, s.entry id = some e →
          (e.claim = .peer h.station pocket →
            exec (.releaseReceived h id pocket reason) s =
              .next
                { t with
                  table := s.table.map (fun x : Entry => if x.id = id then { x with claim := .none } else x) })
          ∧ (e.claim ≠ .peer h.station pocket → exec (.releaseReceived h id pocket reason) s = .next t))
    ∧ (s.entry id = none → exec (.lostReceived h id) s = .next t)
    ∧ ∀ e, s.entry id = some e →
        (e.presence = .expected → exec (.lostReceived h id) s = .next (t.removeEntry id))
        ∧ (e.presence ≠ .expected →
          exec (.lostReceived h id) s =
            .next
              { t with
                table := s.table.map (fun x : Entry => if x.id = id then { x with lostHeard := true } else x) })

/-- R76: a DIVERTED from upstream for a letter of the table. Without an own operation the entry is removed; an ARMED one is
cancelled first; in both cases a waiting own CLAIM is withdrawn. With a fired one the entry stays, DIVERTED_HEARD is set and
DIVERT_ANOMALY latched. It is taken at a receiver and while an attempt of this station is on the line (R157, log 28). Which
operation is the entry's own is the model's reading (log 20). -/
def Obligations.DivertedReceivedFromUpstream : Prop :=
  ∀ (s t : State) (h : Header) (id : LetterId) (pocket : Byte) (tally : Word), s.HandsLetterOn h t →
    (s.entry id = none → exec (.divertedReceived h id pocket tally) s = .next t)
    ∧ ((s.entry id).isSome = true →
      (s.ownOp id = none →
        exec (.divertedReceived h id pocket tally) s = .next ((t.withdrawClaim id).removeEntry id))
      ∧ (∀ j before o after,
        (∀ i : Fin 4, i < j → ∀ x ∈ (s.pocket i).ops, x.id = id → x.confirmed = true) →
        (s.pocket j).ops = before ++ o :: after → (∀ x ∈ before, x.id = id → x.confirmed = true) → o.id = id →
        o.confirmed = false →
        (o.state = .armed →
          exec (.divertedReceived h id pocket tally) s =
            .next (((t.withGate j (before ++ after) (s.pocket j).drive).withdrawClaim id).removeEntry id))
        ∧ (o.state ≠ .armed →
          exec (.divertedReceived h id pocket tally) s =
            .next
              (State.latch
                { t with
                  table := s.table.map (fun x : Entry => if x.id = id then { x with divertedHeard := true } else x) }
                .divertAnomaly))))

/-- R57, R58, R59, R54, R55, R162: a SIGHT from upstream. E is SOF_tach less the age plus the distance between the stations.
One whose age exceeds 16383, or whose letter ID is in the table, is ignored; one whose window has passed counts as lost;
another enters an EXPECTED entry, or at a full table latches TABLE_FULL. -/
def Obligations.SightReceivedFromUpstream : Prop :=
  ∀ (s : State) (h : Header) (id : LetterId) (age len : Word), s.TakesLetterFrame h →
    let t : State := { s with line := { s.line with state := .waitFree, ackDriven := true } }
    let x : Pos := s.line.sofTach - age + BitVec.ofNat 16 (s.cfg.position.toNat - h.position.toNat)
    (16383 < age.toNat ∨ (s.entry id).isSome = true → exec (.sightReceived h id age len) s = .next t)
    ∧ (age.toNat ≤ 16383 → s.entry id = none →
      (isAfter (x + s.cfg.tol) s.tach.count = false →
        exec (.sightReceived h id age len) s =
          .next { t with counters := { s.counters with lost := satInc s.counters.lost } })
      ∧ (isAfter (x + s.cfg.tol) s.tach.count = true → s.table.length < 48 →
        exec (.sightReceived h id age len) s =
          .next
            { t with
              table :=
                placeEntry
                  { id := id, origin := .upstream, presence := .expected, expectedAt := some x, arrival := none,
                    trailing := none, length := some len, double := decide (s.cfg.lenMax.toNat < len.toNat),
                    arrivedWhileClaimed := false, divertedHeard := false, lostHeard := false,
                    identity :=
                      { state := .unread, code := none, agree := 0, fail := 0, best := 0, firstReader := none },
                    claim := .none, decided := false, expiry := some (x + s.cfg.tol + 1), retirement := none,
                    decisionPoint := none }
                  s.table })
      ∧ (isAfter (x + s.cfg.tol) s.tach.count = true → 48 ≤ s.table.length →
        exec (.sightReceived h id age len) s = .next (t.latch .tableFull)))

/-- R87, R88, R89, R81: a READ from upstream. Outcome GOOD with a code that passes the check digit is applied with its quality
bounded to 15, outcome FAILED without a code as a failed read; any other is ignored, and so is one for a letter not in the
table. The reader is the sender. A letter whose identity changed is judged again if its own operation is ARMED (R84, R110,
R111); with a fired operation, or none, the read changes the identity alone. At a receiver and while an attempt of this
station is on the line (R113, R157, log 28). Which operation is the letter's own is the model's reading (log 20). -/
def Obligations.ReadReceivedFromUpstream : Prop :=
  ∀ (s t : State) (h : Header) (id : LetterId) (outcome quality sweeps : Byte) (code : Option Code), s.HandsLetterOn h t →
    let applies (read : Identity → Identity) : Prop :=
      ∃ judged, (t.withIdentity id read).JudgedAgain id (s.identityChanges id read) judged
        ∧ (s.ownOp id = none ∨ (∃ k o, s.ownOp id = some (k, o) ∧ o.state ≠ .armed) → judged = t.withIdentity id read)
        ∧ exec (.readReceived h id outcome quality sweeps code) s = .next judged
    (∀ c, outcome.toNat / 64 = 1 → code = some c → checkDigitPasses c = true →
      applies (fun i => i.applyGood c (BitVec.ofNat 4 (min 15 quality.toNat)) h.station))
    ∧ (outcome.toNat / 64 = 2 → code = none → applies Identity.applyFailed)
    ∧ (¬(∃ c, outcome.toNat / 64 = 1 ∧ code = some c ∧ checkDigitPasses c = true) →
      ¬(outcome.toNat / 64 = 2 ∧ code = none) →
      exec (.readReceived h id outcome quality sweeps code) s = .next t)
    ∧ (s.entry id = none → exec (.readReceived h id outcome quality sweeps code) s = .next t)

/-- R182: a CLEAR in JAMMED, by the levels at that moment: refused with JAM(CLEAR_REFUSED) or JAM(STOP), or RUNNING; outside
JAMMED it is ignored. R186: a POLL aimed at this station or at all queues a STATUS in JOINING, RUNNING and JAMMED; another is
ignored. Both at a receiver and while an attempt of this station is on the line (log 28); a STATUS then in flight is replaced:
acknowledged, it is queued anew, and otherwise it stays with attempt count 0 (R155). That a POLL taken in no other run state
changes nothing more concerns states that no run reaches (log 18). -/
def Obligations.ClearAndPollReceived : Prop :=
  ∀ (s t : State) (h : Header), s.HandsOn h t →
    (s.runState ≠ .jammed → exec (.clearReceived h) s = .next t)
    ∧ (s.runState = .jammed →
      (s.pins.pcellBlocked = true → exec (.clearReceived h) s = .next (t.enqueue (.jam .clearRefused)))
      ∧ (s.pins.pcellBlocked = false → s.pins.stopHigh = false →
        exec (.clearReceived h) s = .next (t.enqueue (.jam .stop)))
      ∧ (s.pins.pcellBlocked = false → s.pins.stopHigh = true →
        exec (.clearReceived h) s =
          .next { t with runState := .running, conditions := s.conditions.setTo .jammed false }))
    ∧ (∀ target : Byte,
      (s.joined = true → (target.toNat = s.straps.station.toNat ∨ target.toNat = 255) →
        exec (.pollReceived h target) s = .next (t.enqueue .status)
        ∧ ∀ before q after, s.line.state = .inFrame .sender → s.line.queue = before ++ q :: after → q.frame = .status →
            q.inFlight = true → (∀ x ∈ before ++ after, x.inFlight = false ∧ x.frame ≠ .status) →
            let u : State :=
              { s with
                line := { s.line with queue := before ++ { q with attempts := 0, replaced := true } :: after } }
            exec (.pollReceived h target) s = .next u
            ∧ exec (.attemptEnd true) u =
                .next
                  (State.enqueue
                    { u.afterAttempt (before ++ after) with
                      conditions := (s.conditions.setTo .isolated false).clearReported }
                    .status)
            ∧ exec (.attemptEnd false) u =
                .next
                  (u.afterAttempt
                    (before ++ { q with attempts := 0, inFlight := false, replaced := false } :: after)))
      ∧ (s.joined = false ∨ (target.toNat ≠ s.straps.station.toNat ∧ target.toNat ≠ 255) →
        exec (.pollReceived h target) s = .next t))

/-! ### The supervisor and start-up -/

/-- R180, R181, R60: a falling edge of STOP clears a set STOP released flag, and outside RUNNING does nothing more; in RESET it
is not taken. A rising edge sets the flag, outside RESET. RESUME in JAMMED with PCELL clear and STOP high queues CLEAR and
enters RUNNING; with PCELL blocked or STOP low it is ignored. -/
def Obligations.StopAndResumePresses : Prop :=
  ∀ s : State,
    (s.pins.stopHigh = true → s.runState ≠ .running →
      exec .stopPress s =
        .next
          { s with
            pins := { s.pins with stopHigh := false },
            stopReleased := if s.runState = .reset then s.stopReleased else false })
    ∧ (s.pins.stopHigh = true → s.stopReleased = false →
      exec .stopPress s = .next { s with pins := { s.pins with stopHigh := false } })
    ∧ (s.pins.stopHigh = false →
      exec .stopRelease s =
        .next
          { s with
            pins := { s.pins with stopHigh := true },
            stopReleased := if s.runState = .reset then s.stopReleased else true })
    ∧ (s.runState = .jammed → s.pins.pcellBlocked = false → s.pins.stopHigh = true →
      let t := s.enqueue .clear
      exec .resumePress s = .next { t with runState := .running, conditions := t.conditions.setTo .jammed false })
    ∧ (s.runState = .jammed → (s.pins.pcellBlocked = true ∨ s.pins.stopHigh = false) →
      exec .resumePress s = .next s)

/-- R163, R159: a fall of POWER_OK or of RESET puts the station into RESET from any run state, with the line inactive, the
queue empty, the configuration read abandoned, and no letter, operation or point left; GATEk, JAMOUT and ALERT are inactive,
TL is released, CMSEL is high, CMCLK low, and CMDO held low; a fall of POWER_OK loses the configuration. What the kinds of
reset keep is untouched, CONFIG_CLAMPED and POCKET_DISABLED too; that the other conditions, the delta bits and the marks are
cleared here, and not at the release, is the model's reading (log 17). R165: a rise of POWER_OK while RESET is low latches
the straps. -/
def Obligations.ResetEntryAbandonsWork : Prop :=
  (∀ (s : State) (signal : ResetSignal),
    (match signal with
      | .powerOk => s.pins.powerOk
      | .reset => s.pins.resetHigh) = true →
    ∃ t, exec (.resetEntry signal) s = .next t ∧ t.runState = .reset ∧ t.Idle ∧ t.line.state = .inactive
      ∧ t.line.queue = [] ∧ t.loader = { selected := false, sent := [], header := [] } ∧ t.gateOut 0 = false
      ∧ t.gateOut 1 = false ∧ t.gateOut 2 = false ∧ t.gateOut 3 = false ∧ t.jamOut = false ∧ t.alertOut = false
      ∧ t.tlCells = none ∧ t.tlAck = false ∧ t.cmselHigh = true
      ∧ (∀ half, t.cmclkHigh half = false ∧ t.cmdoHigh half = false)
      ∧ t.frontEnd.capture = .closed
      ∧ t.haltedAtEntry = (s.haltedAtEntry || s.runState == .halted)
      ∧ t.straps = s.straps ∧ t.sequence = s.sequence ∧ t.counters = s.counters ∧ t.readWindow = s.readWindow
      ∧ t.line.discards = s.line.discards ∧ (∀ k, (t.pocket k).tally = (s.pocket k).tally) ∧ t.tach = s.tach
      ∧ t.stopReleased = s.stopReleased
      ∧ t.conditions.isActive .configClamped = s.conditions.isActive .configClamped
      ∧ t.conditions.isActive .pocketDisabled = s.conditions.isActive .pocketDisabled
      ∧ (∀ c : Condition, c ≠ .configClamped → c ≠ .pocketDisabled → t.conditions.isActive c = false)
      ∧ t.conditions.deltas = 0 ∧ t.conditions.markedLatched = 0 ∧ t.conditions.markedDeltas = 0
      ∧ (signal = .powerOk → t.pins = { s.pins with powerOk := false } ∧ t.config = none ∧ t.powerLost = true)
      ∧ (signal = .reset → t.pins = { s.pins with resetHigh := false } ∧ t.config = s.config ∧ t.powerLost = s.powerLost))
  ∧ (∀ (s : State) (straps : Straps), s.runState = .reset → s.pins.powerOk = false → s.pins.resetHigh = false →
      exec (.powerOkRiseInReset straps) s =
        .next { s with pins := { s.pins with powerOk := true }, straps := straps })

/-- R164, R165, R166, R180: the release of a power-on or pin reset leads to LOADING with everything at its initial value, the
configuration read begun, the straps latched as R165 gives, and the STOP released flag formed from the level of STOP. The
model's readings and choices: the straps stay as they are when the rise of RESET ends a power-on reset (log 16), SOF_tach and
the samples of the quiet search are 0 (log 6), the pins keep their levels, POWER_OK and RESET high, and the waiting commands
stay (log 1, log 5). -/
def Obligations.PowerOnAndPinResetLoad : Prop :=
  ∀ (s : State) (straps : Straps) (retain : Bool), s.runState = .reset →
    (s.powerLost = true ∨ retain = false ∨ s.config = none ∨ s.haltedAtEntry = true) →
    exec (.resetRelease straps retain) s =
      .next
        { pins := { s.pins with powerOk := true, resetHigh := true },
          runState := .loading,
          straps := if s.powerLost = true ∧ s.pins.powerOk = true then s.straps else straps,
          config := none,
          loader := { selected := true, sent := [0x03, 0x00, 0x00], header := [] },
          powerLost := false, haltedAtEntry := false, stopReleased := s.pins.stopHigh,
          conditions := { active := 0, deltas := 0, markedLatched := 0, markedDeltas := 0 },
          counters :=
            { sightings := 0, goodReads := 0, failedReads := 0, claims := 0, diverted := 0, released := 0, lost := 0,
              runouts := 0 },
          tach :=
            { count := 0, ring := ⟨65535, 65535, 65535, 65535, 65535, 65535, 65535, 65535⟩, p8 := 65535,
              elapsed := 65535 },
          frontEnd :=
            { accepted := .space, pending := 0, width := 0, capture := .closed, quietSeen := false, runBuffer := [],
              searchSamples := 0 },
          scan := none, table := [], blockage := .none, sequence := 0, readWindow := [],
          pockets := ⟨Pocket.atReset, Pocket.atReset, Pocket.atReset, Pocket.atReset⟩,
          line := { state := .inactive, sofTach := 0, ackDriven := false, sending := [], queue := [], discards := 0 },
          pending := s.pending }

/-- R164, R167, R175, R115: the release of a retain reset leads to JOINING. Configuration, straps, sequence counter, tallies,
read-rate window, counters and discard count are kept, CONFIG_CLAMPED and POCKET_DISABLED too; the rest starts anew, a JOIN
is queued, and the pocket states are formed from the levels of the pins. R184: every delta bit is clear but that of
POCKET_FULL, set when the pocket states make it active, and no mark is left. That SOF_tach and the samples of the quiet search
are 0 is the model's choice (log 6). -/
def Obligations.RetainResetJoins : Prop :=
  ∀ (s : State) (straps : Straps), s.runState = .reset → s.powerLost = false → s.haltedAtEntry = false →
    ∀ cfg, s.config = some cfg →
    ∃ t, exec (.resetRelease straps true) s = .next t ∧ t.runState = .joining ∧ t.config = some cfg
      ∧ t.straps = s.straps ∧ t.sequence = s.sequence ∧ t.readWindow = s.readWindow ∧ t.counters = s.counters
      ∧ t.Idle
      ∧ t.tach =
          { count := 0, ring := ⟨65535, 65535, 65535, 65535, 65535, 65535, 65535, 65535⟩, p8 := 65535, elapsed := 65535 }
      ∧ t.frontEnd =
          { accepted := .space, pending := 0, width := 0, capture := .closed, quietSeen := false, runBuffer := [],
            searchSamples := 0 }
      ∧ t.stopReleased = s.pins.stopHigh ∧ t.pins = { s.pins with powerOk := true, resetHigh := true }
      ∧ t.loader = { selected := false, sent := [], header := [] } ∧ t.powerLost = false ∧ t.haltedAtEntry = false
      ∧ t.pending = s.pending
      ∧ t.line =
          { s.line with
            state := .waitFree, sofTach := 0, ackDriven := false, sending := [],
            queue := [newQueued (.join cfg.pocketCount cfg.crc)] }
      ∧ (∀ k, (t.pocket k).tally = (s.pocket k).tally ∧ (t.pocket k).missCount = 0 ∧ (t.pocket k).fault = false
          ∧ (t.pocket k).state =
              formedState (cfg.rules.get k) (s.pins.pswap.get k) (s.pins.pfull.get k) false (s.pocket k).tally)
      ∧ (∀ c : Condition, t.conditions.isActive c =
          if c = .configClamped ∨ c = .pocketDisabled then s.conditions.isActive c
          else if c = .pocketFull then
            decide (∃ k, (t.pocket k).state = .full ∨ (t.pocket k).state = .out)
          else false)
      ∧ t.conditions.deltas = (if t.conditions.isActive .pocketFull = true then 0x0040#16 else 0)
      ∧ t.conditions.markedLatched = 0 ∧ t.conditions.markedDeltas = 0

/-- R168 to R171, R174: a header byte is taken or halts the station; the completed image is taken when its CRC passes, which
begins JOINING with a JOIN queued, and halts it otherwise. HALTED leaves the station without a configuration, CMSEL high.
R168: in the read CMCLK is low in the first half of each cycle and high in the second, CMDO carries the 24 bits of 03 00 00
hex, most significant first, and the bits sampled from CMDI, most significant first, form the bytes of the two rows: eight
for each header byte, then those of the 73 + 5·h bytes that follow. R170: the CRC bit by bit. R174, R184: the load forms
CONFIG_CLAMPED, POCKET_DISABLED and the two pocket conditions, and each that changes sets its delta bit. -/
def Obligations.ConfigurationReadTakesOrHalts : Prop :=
  (∀ data : List Byte,
    crc16 data =
      (bytesBits data).foldl (fun (reg : Word) bit => if reg.getLsbD 15 = bit then reg <<< 1 else (reg <<< 1) ^^^ 0x1021#16)
        0xFFFF#16)
  ∧ (∀ (s : State) (b : Byte), s.runState = .loading → s.loader.header.length < 4 →
    let n := s.loader.header.length
    let good := (n = 0 ∧ b = 0x4E) ∨ (n = 1 ∧ b = 0x42) ∨ (n = 2 ∧ b = 1) ∨ (n = 3 ∧ b.toNat ≤ 32)
    (good →
      exec (.headerByteCheck b) s =
        .next { s with loader := { s.loader with header := s.loader.header ++ [b] } })
    ∧ (¬good →
      exec (.headerByteCheck b) s =
        .next
          { s with
            runState := .halted, config := none, loader := { selected := false, sent := s.loader.sent, header := [] } }))
  ∧ (∀ (s : State) (h0 h1 h2 h3 : Byte) (body : List Byte) (c0 c1 : Byte), s.runState = .loading →
      s.loader.header = [h0, h1, h2, h3] → body.length = 71 + 5 * h3.toNat →
      let image := [h0, h1, h2, h3] ++ body
      let rest := body ++ [c0, c1]
      (crc16 image ≠ c0 ++ c1 →
        exec (.configReadComplete rest) s =
          .next
            { s with
              runState := .halted, config := none,
              loader := { selected := false, sent := s.loader.sent, header := [] } })
      ∧ (crc16 image = c0 ++ c1 →
        let cfg := loadedConfig image (c0 ++ c1)
        ∃ pockets conditions,
          exec (.configReadComplete rest) s =
            .next
              { s with
                runState := .joining, config := some cfg,
                loader := { selected := false, sent := s.loader.sent, header := [] },
                frontEnd :=
                  { accepted := .space, pending := 0, width := 0, capture := .closed, quietSeen := false,
                    runBuffer := [], searchSamples := 0 },
                line :=
                  { s.line with
                    state := .waitFree, ackDriven := false, sending := [],
                    queue := [newQueued (.join (min 4 (image.getD 7 0).toNat) (c0 ++ c1))] },
                pockets := pockets, conditions := conditions }
          ∧ (∀ k, pockets.get k =
              { s.pocket k with
                state :=
                  formedState (cfg.rules.get k) (s.pins.pswap.get k) (s.pins.pfull.get k) (s.pocket k).fault
                    (s.pocket k).tally })
          ∧ (∀ c : Condition,
            conditions.isActive c =
              (if c = .configClamped then imageClamped image
               else if c = .pocketDisabled then imageDisables image
               else if c = .pocketFault then decide (∃ k, (pockets.get k).state = .fault)
               else if c = .pocketFull then decide (∃ k, (pockets.get k).state = .full ∨ (pockets.get k).state = .out)
               else s.conditions.isActive c)
            ∧ conditions.deltas.getLsbD (conditionRank c - 1)
                = (s.conditions.deltas.getLsbD (conditionRank c - 1)
                  || (conditions.isActive c != s.conditions.isActive c)))
          ∧ (s.conditions.active = 0 → s.conditions.deltas = 0 →
            ∀ c : Condition, conditions.deltas.getLsbD (conditionRank c - 1) = conditions.isActive c)))
  ∧ ∀ s : State, s.runState = .loading → s.loader.selected = true →
      (s.loader.sent = [0x03, 0x00, 0x00] → ∀ i, i < 24 →
        s.cmdoHigh (2 * i) = decide (i = 6 ∨ i = 7) ∧ s.cmdoHigh (2 * i + 1) = decide (i = 6 ∨ i = 7))
      ∧ (∀ i, s.cmclkHigh (2 * i) = false ∧ s.cmclkHigh (2 * i + 1) = true)
      ∧ (s.loader.header.length < 4 →
        (∀ b7 b6 b5 b4 b3 b2 b1 b0 : Bool,
          let bit (x : Bool) (place : Nat) : Nat := if x then place else 0
          s.readRow [b7, b6, b5, b4, b3, b2, b1, b0] =
            some
              (.headerByteCheck
                (BitVec.ofNat 8
                  (bit b7 128 + bit b6 64 + bit b5 32 + bit b4 16 + bit b3 8 + bit b2 4 + bit b1 2 + bit b0 1))))
        ∧ ∀ bits, bits.length < 8 → s.readRow bits = none)
      ∧ ∀ h0 h1 h2 h3 : Byte, s.loader.header = [h0, h1, h2, h3] →
          (∀ rest : List Byte, rest.length = 73 + 5 * h3.toNat →
            s.readRow (bytesBits rest) = some (.configReadComplete rest))
          ∧ ∀ bits, bits.length < 8 * (73 + 5 * h3.toNat) → s.readRow bits = none

/-- R172, R173, R8: whatever the image holds, the configuration loaded from it lies in the ranges of the image table and
keeps the relations of R8; a pocket beyond the pocket count is OFF. Every field is the one at its offset of the image, brought
into its range and related as R173 says, so that a field in its range is taken unchanged; a pocket is switched off by step 3
of R173. R174: CONFIG_CLAMPED and POCKET_DISABLED follow the replacements and the switching off. -/
def Obligations.LoadedGeometryKeepsRelations : Prop :=
  ∀ (image : List Byte) (crc : Word),
    let c := loadedConfig image crc
    1 ≤ c.tol.toNat ∧ c.tol.toNat ≤ 255 ∧ 1 ≤ c.lenMin.toNat ∧ c.lenMin.toNat ≤ c.lenMax.toNat ∧ c.lenMax.toNat ≤ 4094
      ∧ c.lenMax.toNat < c.jamLen.toNat ∧ c.jamLen.toNat ≤ 4095 ∧ 1 ≤ c.decideDist.toNat ∧ c.decideDist.toNat ≤ 2047
      ∧ c.scanTail.toNat ≤ c.retire.toNat ∧ c.retire.toNat ≤ 8191 ∧ c.scanTail.toNat ≤ 2047 ∧ c.confExt.toNat ≤ 2047
      ∧ c.divider ≤ 5 ∧ 1 ≤ c.noiseFilter ∧ c.noiseFilter ≤ 4 ∧ 16 ≤ c.quiet ∧ c.quiet ≤ 4095
      ∧ 1 ≤ c.voteMin ∧ c.voteMin ≤ 15 ∧ 100 ≤ c.pullIn.toNat ∧ c.pullIn.toNat ≤ 20000
      ∧ 10 ≤ c.holdOn.toNat ∧ c.holdOn.toNat ≤ 1000 ∧ 10 ≤ c.holdOff.toNat ∧ c.holdOff.toNat ≤ 1000
      ∧ c.latency.toNat ≤ 16383 ∧ c.advMax.toNat ≤ 255 ∧ c.relMargin.toNat ≤ 255 ∧ c.readRateThreshold ≤ 32
      ∧ c.pocketCount ≤ 4 ∧ c.alertMask &&& 0xF000#16 = 0 ∧ c.crc = crc
      ∧ (∀ k : Fin 4, c.pocketCount ≤ k.val → (c.rules.get k).kind = .off)
      ∧ (∀ k : Fin 4, (c.rules.get k).kind ≠ .off →
          c.decideDist.toNat + c.advMax.toNat < (c.rules.get k).gate.toNat ∧ (c.rules.get k).gate.toNat ≤ 4095
            ∧ (c.rules.get k).gate.toNat + c.relMargin.toNat + c.confExt.toNat ≤ c.retire.toNat
            ∧ (c.rules.get k).classLow.toNat ≤ (c.rules.get k).classHigh.toNat)
      ∧ FieldsTaken image c ∧ (∀ k, RuleTaken image c k)
      ∧ (imageClamped image = true ↔ SomeFieldClamped image c)
      ∧ (imageDisables image = true ↔ ∃ k, SwitchedOff image k)

/-! ### Headline statements -/

/-- R143 to R146, R160, R162, section 8.6: for every received-frame command, with every operand at every value a frame can
carry, the cells of its frame after the start cell are judged well formed and read back as that command. The frames this
station sends, of every kind, whose bytes AttemptBytesFollowLayout gives, read back at another station as the commands with
their fields: RUNOUT and STATUS, which have no owner, as ignored frames with their body bytes. A POLL, which no station sends,
has the bytes of its layout. -/
def Obligations.ReceivedFramesReadBack : Prop :=
  (∀ c : Instr, WellFormed c = true → frameOf c ≠ none → (encodeFrame c).bind commandOfCells = some c)
  ∧ (∀ (s : State) (c : Conditions) (d : Byte) (id : LetterId) (a : Pos) (age len tally crc : Word) (k : Fin 4) (n : Nat),
    let h : Header :=
      { station := s.straps.station, position := s.cfg.position, tail := s.cfg.tail, scanner := s.cfg.scanner }
    let heard (f : Frame) := commandOfCells (stuffCells 0 (bytesBits (attemptBytes s c age d f)))
    let pocket : Byte := BitVec.ofNat 8 k.val
    let hi (w : Word) : Byte := BitVec.ofNat 8 (w.toNat / 256)
    let lo (w : Word) : Byte := BitVec.ofNat 8 (w.toNat % 256)
    let id0 : Byte := BitVec.ofNat 8 (16 * id.origin.toNat + id.seq.toNat / 256)
    let id1 : Byte := BitVec.ofNat 8 (id.seq.toNat % 256)
    let codeByte (x : Code) (i : Nat) : Byte := BitVec.ofNat 8 (x.toNat / 256 ^ (5 - i) % 256)
    let pocketCode (p : PocketState) : Nat :=
      match p with
      | .off => 0
      | .ready => 1
      | .full => 2
      | .out => 2
      | .fault => 3
    (∀ reason,
      heard (.jam reason) =
        some
          (.jamReceived h
            (match reason with
              | .ownPhotocell => 0
              | .stop => 1
              | .clearRefused => 2)))
    ∧ heard .clear = some (.clearReceived h)
    ∧ heard (.claim id k) = some (.claimReceived h id pocket)
    ∧ (∀ reason,
      heard (.release id k reason) =
        some
          (.releaseReceived h id pocket
            (match reason with
              | .miss => 0
              | .swap => 1
              | .rejudged => 2)))
    ∧ heard (.diverted id k tally) = some (.divertedReceived h id pocket tally)
    ∧ heard (.sight id a len) = some (.sightReceived h id age len)
    ∧ (∀ code votes runnerUp quality direction sweeps,
      heard (.read ⟨id, .good code votes runnerUp quality direction, sweeps⟩) =
        some
          (.readReceived h id
            (match direction with
              | .forward => 64
              | .reverse => 72)
            (BitVec.ofNat 8 quality.toNat) sweeps (some code)))
    ∧ (∀ reason sweeps,
      heard (.read ⟨id, .failed reason, sweeps⟩) =
        some
          (.readReceived h id
            (match reason with
              | .noRun => 128
              | .noDecode => 144
              | .tooFew => 160
              | .tie => 176)
            0 sweeps none))
    ∧ heard (.lost id) = some (.lostReceived h id)
    ∧ heard (.join n crc) = some (.joinReceived h (BitVec.ofNat 8 n) crc)
    ∧ (∀ state,
      let stateCode : Byte :=
        match state with
        | .unread => 0
        | .failed => 1
        | .settled => 2
        | .conflict => 3
      heard (.runout id state none) = some (.ignoredFrameReceived h 8 [id0, id1, stateCode])
      ∧ ∀ code,
          heard (.runout id state (some code)) =
            some
              (.ignoredFrameReceived h 8
                [id0, id1, stateCode, codeByte code 0, codeByte code 1, codeByte code 2, codeByte code 3,
                  codeByte code 4, codeByte code 5]))
    ∧ heard .status =
        some
          (.ignoredFrameReceived h 10
            [BitVec.ofNat 8 c.topRank, hi c.active, lo c.active, hi c.deltas, lo c.deltas,
              BitVec.ofNat 8
                (64 * pocketCode (s.pocket 3).state + 16 * pocketCode (s.pocket 2).state
                  + 4 * pocketCode (s.pocket 1).state + pocketCode (s.pocket 0).state),
              BitVec.ofNat 8 s.table.length, d, hi s.counters.goodReads, lo s.counters.goodReads,
              hi s.counters.failedReads, lo s.counters.failedReads]))
  ∧ ∀ (h : Header) (target : Byte),
      let data : List Byte :=
        [BitVec.ofNat 8 (144 + h.station.toNat), 1,
          BitVec.ofNat 8
            ((if h.tail then 128 else 0) + (if h.scanner then 64 else 0) + h.position.toNat / 256),
          BitVec.ofNat 8 (h.position.toNat % 256), target]
      encodeFrame (.pollReceived h target) = some (stuffCells 0 (bytesBits (data ++ [crc8 data])))

/-- Every step keeps the capacities of the lists, and the table's law: no letter ID twice, and the blockage record and the
open window name an entry that is there. -/
def Obligations.StepKeepsCapacitiesAndTable : Prop :=
  ∀ s t : State, step s = .next t → (CapacityLaw s → CapacityLaw t) ∧ (TrackLaw s → TrackLaw t)

/-- Every step keeps the transmit queue lawful: order of kind code, at most one STATUS and one JOIN, attempt counts 0..2, at
most one frame in flight and only as a sender. -/
def Obligations.StepKeepsQueueLawful : Prop :=
  ∀ s t : State, step s = .next t → QueueLaw s → QueueLaw t

/-- Every step keeps each drive in agreement with its pocket's operations. -/
def Obligations.StepKeepsDrivesAgreeing : Prop :=
  ∀ s t : State, step s = .next t → DriveLaw s → DriveLaw t

/-- Every step keeps what the run states bring with them, the configuration held and the memory selected among them. -/
def Obligations.StepKeepsRunStateLaw : Prop :=
  ∀ s t : State, step s = .next t → RunLaw s → RunLaw t

/-- Every step keeps the law of the conditions together with the law of the pocket states. -/
def Obligations.StepKeepsConditionsAndPocketStates : Prop :=
  ∀ s t : State, step s = .next t → ConditionLaw s → PocketLaw s → ConditionLaw t ∧ PocketLaw t

/-- All the laws hold right after reset, where the count, the sequence counter, the tallies and the counters are 0, every
slot of the tach ring and P8 are at 65535, and the elapsed-time counter stands at 65535 (R1, R10, R166). -/
def Obligations.LawsHoldAtReset : Prop :=
  CapacityLaw State.reset ∧ TrackLaw State.reset ∧ QueueLaw State.reset ∧ DriveLaw State.reset ∧ RunLaw State.reset
    ∧ ConditionLaw State.reset ∧ PocketLaw State.reset
    ∧ State.reset.tach =
        { count := 0, ring := ⟨65535, 65535, 65535, 65535, 65535, 65535, 65535, 65535⟩, p8 := 65535, elapsed := 65535 }
    ∧ State.reset.sequence = 0
    ∧ (∀ k, (State.reset.pocket k).tally = 0) ∧ State.reset.counters = ⟨0, 0, 0, 0, 0, 0, 0, 0⟩
    ∧ State.reset.runState = .loading ∧ State.reset.config = none ∧ State.reset.pending = []
end

