-- ==== Sys2Proof/Laws/State.lean ====
section
/-! SUPPORT. One lemma per field per named update of the state, so that no later proof unfolds a record update. -/

namespace Sys2Proof.Machine

@[simp] theorem get_set_same {α : Type} (v : PerPocket α) (k : Fin 4) (x : α) : (v.set k x).get k = x := by
  match k with
  | 0 => rfl
  | 1 => rfl
  | 2 => rfl
  | 3 => rfl

@[simp] theorem get_set_other {α : Type} (v : PerPocket α) (j k : Fin 4) (x : α) (h : j ≠ k) :
    (v.set k x).get j = v.get j := by
  match j, k with
  | 0, 0 => exact absurd rfl h
  | 0, 1 => rfl
  | 0, 2 => rfl
  | 0, 3 => rfl
  | 1, 0 => rfl
  | 1, 1 => exact absurd rfl h
  | 1, 2 => rfl
  | 1, 3 => rfl
  | 2, 0 => rfl
  | 2, 1 => rfl
  | 2, 2 => exact absurd rfl h
  | 2, 3 => rfl
  | 3, 0 => rfl
  | 3, 1 => rfl
  | 3, 2 => rfl
  | 3, 3 => exact absurd rfl h

/-- A pocket after another is set, in one lemma. -/
theorem get_set {α : Type} (v : PerPocket α) (j k : Fin 4) (x : α) :
    (v.set k x).get j = if j = k then x else v.get j := by
  by_cases h : j = k
  · subst h; simp
  · simp [h]

@[simp] theorem get_map {α β : Type} (f : α → β) (v : PerPocket α) (k : Fin 4) : (v.map f).get k = f (v.get k) := by
  match k with
  | 0 => rfl
  | 1 => rfl
  | 2 => rfl
  | 3 => rfl

@[simp] theorem set_set {α : Type} (v : PerPocket α) (k : Fin 4) (x y : α) : (v.set k x).set k y = v.set k y := by
  match k with
  | 0 => rfl
  | 1 => rfl
  | 2 => rfl
  | 3 => rfl

@[simp] theorem State.modifyEntry_pins (s : State) (id : LetterId) (f : Entry → Entry) : (s.modifyEntry id f).pins = s.pins := rfl
@[simp] theorem State.modifyEntry_runState (s : State) (id : LetterId) (f : Entry → Entry) : (s.modifyEntry id f).runState = s.runState := rfl
@[simp] theorem State.modifyEntry_straps (s : State) (id : LetterId) (f : Entry → Entry) : (s.modifyEntry id f).straps = s.straps := rfl
@[simp] theorem State.modifyEntry_config (s : State) (id : LetterId) (f : Entry → Entry) : (s.modifyEntry id f).config = s.config := rfl
@[simp] theorem State.modifyEntry_loader (s : State) (id : LetterId) (f : Entry → Entry) : (s.modifyEntry id f).loader = s.loader := rfl
@[simp] theorem State.modifyEntry_powerLost (s : State) (id : LetterId) (f : Entry → Entry) : (s.modifyEntry id f).powerLost = s.powerLost := rfl
@[simp] theorem State.modifyEntry_haltedAtEntry (s : State) (id : LetterId) (f : Entry → Entry) : (s.modifyEntry id f).haltedAtEntry = s.haltedAtEntry := rfl
@[simp] theorem State.modifyEntry_stopReleased (s : State) (id : LetterId) (f : Entry → Entry) : (s.modifyEntry id f).stopReleased = s.stopReleased := rfl
@[simp] theorem State.modifyEntry_conditions (s : State) (id : LetterId) (f : Entry → Entry) : (s.modifyEntry id f).conditions = s.conditions := rfl
@[simp] theorem State.modifyEntry_counters (s : State) (id : LetterId) (f : Entry → Entry) : (s.modifyEntry id f).counters = s.counters := rfl
@[simp] theorem State.modifyEntry_tach (s : State) (id : LetterId) (f : Entry → Entry) : (s.modifyEntry id f).tach = s.tach := rfl
@[simp] theorem State.modifyEntry_frontEnd (s : State) (id : LetterId) (f : Entry → Entry) : (s.modifyEntry id f).frontEnd = s.frontEnd := rfl
@[simp] theorem State.modifyEntry_scan (s : State) (id : LetterId) (f : Entry → Entry) : (s.modifyEntry id f).scan = s.scan := rfl
@[simp] theorem State.modifyEntry_table (s : State) (id : LetterId) (f : Entry → Entry) : (s.modifyEntry id f).table = s.table.map (fun e => if e.id = id then f e else e) := rfl
@[simp] theorem State.modifyEntry_blockage (s : State) (id : LetterId) (f : Entry → Entry) : (s.modifyEntry id f).blockage = s.blockage := rfl
@[simp] theorem State.modifyEntry_sequence (s : State) (id : LetterId) (f : Entry → Entry) : (s.modifyEntry id f).sequence = s.sequence := rfl
@[simp] theorem State.modifyEntry_readWindow (s : State) (id : LetterId) (f : Entry → Entry) : (s.modifyEntry id f).readWindow = s.readWindow := rfl
@[simp] theorem State.modifyEntry_pockets (s : State) (id : LetterId) (f : Entry → Entry) : (s.modifyEntry id f).pockets = s.pockets := rfl
@[simp] theorem State.modifyEntry_line (s : State) (id : LetterId) (f : Entry → Entry) : (s.modifyEntry id f).line = s.line := rfl
@[simp] theorem State.modifyEntry_pending (s : State) (id : LetterId) (f : Entry → Entry) : (s.modifyEntry id f).pending = s.pending := rfl
@[simp] theorem State.modifyEntry_cfg (s : State) (id : LetterId) (f : Entry → Entry) : (s.modifyEntry id f).cfg = s.cfg := rfl

@[simp] theorem State.setPocket_pins (s : State) (k : Fin 4) (p : Pocket) : (s.setPocket k p).pins = s.pins := rfl
@[simp] theorem State.setPocket_runState (s : State) (k : Fin 4) (p : Pocket) : (s.setPocket k p).runState = s.runState := rfl
@[simp] theorem State.setPocket_straps (s : State) (k : Fin 4) (p : Pocket) : (s.setPocket k p).straps = s.straps := rfl
@[simp] theorem State.setPocket_config (s : State) (k : Fin 4) (p : Pocket) : (s.setPocket k p).config = s.config := rfl
@[simp] theorem State.setPocket_loader (s : State) (k : Fin 4) (p : Pocket) : (s.setPocket k p).loader = s.loader := rfl
@[simp] theorem State.setPocket_powerLost (s : State) (k : Fin 4) (p : Pocket) : (s.setPocket k p).powerLost = s.powerLost := rfl
@[simp] theorem State.setPocket_haltedAtEntry (s : State) (k : Fin 4) (p : Pocket) : (s.setPocket k p).haltedAtEntry = s.haltedAtEntry := rfl
@[simp] theorem State.setPocket_stopReleased (s : State) (k : Fin 4) (p : Pocket) : (s.setPocket k p).stopReleased = s.stopReleased := rfl
@[simp] theorem State.setPocket_conditions (s : State) (k : Fin 4) (p : Pocket) : (s.setPocket k p).conditions = s.conditions := rfl
@[simp] theorem State.setPocket_counters (s : State) (k : Fin 4) (p : Pocket) : (s.setPocket k p).counters = s.counters := rfl
@[simp] theorem State.setPocket_tach (s : State) (k : Fin 4) (p : Pocket) : (s.setPocket k p).tach = s.tach := rfl
@[simp] theorem State.setPocket_frontEnd (s : State) (k : Fin 4) (p : Pocket) : (s.setPocket k p).frontEnd = s.frontEnd := rfl
@[simp] theorem State.setPocket_scan (s : State) (k : Fin 4) (p : Pocket) : (s.setPocket k p).scan = s.scan := rfl
@[simp] theorem State.setPocket_table (s : State) (k : Fin 4) (p : Pocket) : (s.setPocket k p).table = s.table := rfl
@[simp] theorem State.setPocket_blockage (s : State) (k : Fin 4) (p : Pocket) : (s.setPocket k p).blockage = s.blockage := rfl
@[simp] theorem State.setPocket_sequence (s : State) (k : Fin 4) (p : Pocket) : (s.setPocket k p).sequence = s.sequence := rfl
@[simp] theorem State.setPocket_readWindow (s : State) (k : Fin 4) (p : Pocket) : (s.setPocket k p).readWindow = s.readWindow := rfl
@[simp] theorem State.setPocket_pockets (s : State) (k : Fin 4) (p : Pocket) : (s.setPocket k p).pockets = s.pockets.set k p := rfl
@[simp] theorem State.setPocket_line (s : State) (k : Fin 4) (p : Pocket) : (s.setPocket k p).line = s.line := rfl
@[simp] theorem State.setPocket_pending (s : State) (k : Fin 4) (p : Pocket) : (s.setPocket k p).pending = s.pending := rfl
@[simp] theorem State.setPocket_cfg (s : State) (k : Fin 4) (p : Pocket) : (s.setPocket k p).cfg = s.cfg := rfl

@[simp] theorem State.setCondition_pins (s : State) (c : Condition) (v : Bool) : (s.setCondition c v).pins = s.pins := rfl
@[simp] theorem State.setCondition_runState (s : State) (c : Condition) (v : Bool) : (s.setCondition c v).runState = s.runState := rfl
@[simp] theorem State.setCondition_straps (s : State) (c : Condition) (v : Bool) : (s.setCondition c v).straps = s.straps := rfl
@[simp] theorem State.setCondition_config (s : State) (c : Condition) (v : Bool) : (s.setCondition c v).config = s.config := rfl
@[simp] theorem State.setCondition_loader (s : State) (c : Condition) (v : Bool) : (s.setCondition c v).loader = s.loader := rfl
@[simp] theorem State.setCondition_powerLost (s : State) (c : Condition) (v : Bool) : (s.setCondition c v).powerLost = s.powerLost := rfl
@[simp] theorem State.setCondition_haltedAtEntry (s : State) (c : Condition) (v : Bool) : (s.setCondition c v).haltedAtEntry = s.haltedAtEntry := rfl
@[simp] theorem State.setCondition_stopReleased (s : State) (c : Condition) (v : Bool) : (s.setCondition c v).stopReleased = s.stopReleased := rfl
@[simp] theorem State.setCondition_conditions (s : State) (c : Condition) (v : Bool) : (s.setCondition c v).conditions = s.conditions.setTo c v := rfl
@[simp] theorem State.setCondition_counters (s : State) (c : Condition) (v : Bool) : (s.setCondition c v).counters = s.counters := rfl
@[simp] theorem State.setCondition_tach (s : State) (c : Condition) (v : Bool) : (s.setCondition c v).tach = s.tach := rfl
@[simp] theorem State.setCondition_frontEnd (s : State) (c : Condition) (v : Bool) : (s.setCondition c v).frontEnd = s.frontEnd := rfl
@[simp] theorem State.setCondition_scan (s : State) (c : Condition) (v : Bool) : (s.setCondition c v).scan = s.scan := rfl
@[simp] theorem State.setCondition_table (s : State) (c : Condition) (v : Bool) : (s.setCondition c v).table = s.table := rfl
@[simp] theorem State.setCondition_blockage (s : State) (c : Condition) (v : Bool) : (s.setCondition c v).blockage = s.blockage := rfl
@[simp] theorem State.setCondition_sequence (s : State) (c : Condition) (v : Bool) : (s.setCondition c v).sequence = s.sequence := rfl
@[simp] theorem State.setCondition_readWindow (s : State) (c : Condition) (v : Bool) : (s.setCondition c v).readWindow = s.readWindow := rfl
@[simp] theorem State.setCondition_pockets (s : State) (c : Condition) (v : Bool) : (s.setCondition c v).pockets = s.pockets := rfl
@[simp] theorem State.setCondition_line (s : State) (c : Condition) (v : Bool) : (s.setCondition c v).line = s.line := rfl
@[simp] theorem State.setCondition_pending (s : State) (c : Condition) (v : Bool) : (s.setCondition c v).pending = s.pending := rfl
@[simp] theorem State.setCondition_cfg (s : State) (c : Condition) (v : Bool) : (s.setCondition c v).cfg = s.cfg := rfl

@[simp] theorem State.latch_pins (s : State) (c : Condition) : (s.latch c).pins = s.pins := rfl
@[simp] theorem State.latch_runState (s : State) (c : Condition) : (s.latch c).runState = s.runState := rfl
@[simp] theorem State.latch_straps (s : State) (c : Condition) : (s.latch c).straps = s.straps := rfl
@[simp] theorem State.latch_config (s : State) (c : Condition) : (s.latch c).config = s.config := rfl
@[simp] theorem State.latch_loader (s : State) (c : Condition) : (s.latch c).loader = s.loader := rfl
@[simp] theorem State.latch_powerLost (s : State) (c : Condition) : (s.latch c).powerLost = s.powerLost := rfl
@[simp] theorem State.latch_haltedAtEntry (s : State) (c : Condition) : (s.latch c).haltedAtEntry = s.haltedAtEntry := rfl
@[simp] theorem State.latch_stopReleased (s : State) (c : Condition) : (s.latch c).stopReleased = s.stopReleased := rfl
@[simp] theorem State.latch_conditions (s : State) (c : Condition) : (s.latch c).conditions = s.conditions.latch c := rfl
@[simp] theorem State.latch_counters (s : State) (c : Condition) : (s.latch c).counters = s.counters := rfl
@[simp] theorem State.latch_tach (s : State) (c : Condition) : (s.latch c).tach = s.tach := rfl
@[simp] theorem State.latch_frontEnd (s : State) (c : Condition) : (s.latch c).frontEnd = s.frontEnd := rfl
@[simp] theorem State.latch_scan (s : State) (c : Condition) : (s.latch c).scan = s.scan := rfl
@[simp] theorem State.latch_table (s : State) (c : Condition) : (s.latch c).table = s.table := rfl
@[simp] theorem State.latch_blockage (s : State) (c : Condition) : (s.latch c).blockage = s.blockage := rfl
@[simp] theorem State.latch_sequence (s : State) (c : Condition) : (s.latch c).sequence = s.sequence := rfl
@[simp] theorem State.latch_readWindow (s : State) (c : Condition) : (s.latch c).readWindow = s.readWindow := rfl
@[simp] theorem State.latch_pockets (s : State) (c : Condition) : (s.latch c).pockets = s.pockets := rfl
@[simp] theorem State.latch_line (s : State) (c : Condition) : (s.latch c).line = s.line := rfl
@[simp] theorem State.latch_pending (s : State) (c : Condition) : (s.latch c).pending = s.pending := rfl
@[simp] theorem State.latch_cfg (s : State) (c : Condition) : (s.latch c).cfg = s.cfg := rfl

@[simp] theorem State.count_pins (s : State) (f : Counters → Counters) : (s.count f).pins = s.pins := rfl
@[simp] theorem State.count_runState (s : State) (f : Counters → Counters) : (s.count f).runState = s.runState := rfl
@[simp] theorem State.count_straps (s : State) (f : Counters → Counters) : (s.count f).straps = s.straps := rfl
@[simp] theorem State.count_config (s : State) (f : Counters → Counters) : (s.count f).config = s.config := rfl
@[simp] theorem State.count_loader (s : State) (f : Counters → Counters) : (s.count f).loader = s.loader := rfl
@[simp] theorem State.count_powerLost (s : State) (f : Counters → Counters) : (s.count f).powerLost = s.powerLost := rfl
@[simp] theorem State.count_haltedAtEntry (s : State) (f : Counters → Counters) : (s.count f).haltedAtEntry = s.haltedAtEntry := rfl
@[simp] theorem State.count_stopReleased (s : State) (f : Counters → Counters) : (s.count f).stopReleased = s.stopReleased := rfl
@[simp] theorem State.count_conditions (s : State) (f : Counters → Counters) : (s.count f).conditions = s.conditions := rfl
@[simp] theorem State.count_counters (s : State) (f : Counters → Counters) : (s.count f).counters = f s.counters := rfl
@[simp] theorem State.count_tach (s : State) (f : Counters → Counters) : (s.count f).tach = s.tach := rfl
@[simp] theorem State.count_frontEnd (s : State) (f : Counters → Counters) : (s.count f).frontEnd = s.frontEnd := rfl
@[simp] theorem State.count_scan (s : State) (f : Counters → Counters) : (s.count f).scan = s.scan := rfl
@[simp] theorem State.count_table (s : State) (f : Counters → Counters) : (s.count f).table = s.table := rfl
@[simp] theorem State.count_blockage (s : State) (f : Counters → Counters) : (s.count f).blockage = s.blockage := rfl
@[simp] theorem State.count_sequence (s : State) (f : Counters → Counters) : (s.count f).sequence = s.sequence := rfl
@[simp] theorem State.count_readWindow (s : State) (f : Counters → Counters) : (s.count f).readWindow = s.readWindow := rfl
@[simp] theorem State.count_pockets (s : State) (f : Counters → Counters) : (s.count f).pockets = s.pockets := rfl
@[simp] theorem State.count_line (s : State) (f : Counters → Counters) : (s.count f).line = s.line := rfl
@[simp] theorem State.count_pending (s : State) (f : Counters → Counters) : (s.count f).pending = s.pending := rfl
@[simp] theorem State.count_cfg (s : State) (f : Counters → Counters) : (s.count f).cfg = s.cfg := rfl

@[simp] theorem State.discardWindow_pins (s : State) : s.discardWindow.pins = s.pins := rfl
@[simp] theorem State.discardWindow_runState (s : State) : s.discardWindow.runState = s.runState := rfl
@[simp] theorem State.discardWindow_straps (s : State) : s.discardWindow.straps = s.straps := rfl
@[simp] theorem State.discardWindow_config (s : State) : s.discardWindow.config = s.config := rfl
@[simp] theorem State.discardWindow_loader (s : State) : s.discardWindow.loader = s.loader := rfl
@[simp] theorem State.discardWindow_powerLost (s : State) : s.discardWindow.powerLost = s.powerLost := rfl
@[simp] theorem State.discardWindow_haltedAtEntry (s : State) : s.discardWindow.haltedAtEntry = s.haltedAtEntry := rfl
@[simp] theorem State.discardWindow_stopReleased (s : State) : s.discardWindow.stopReleased = s.stopReleased := rfl
@[simp] theorem State.discardWindow_conditions (s : State) : s.discardWindow.conditions = s.conditions := rfl
@[simp] theorem State.discardWindow_counters (s : State) : s.discardWindow.counters = s.counters := rfl
@[simp] theorem State.discardWindow_tach (s : State) : s.discardWindow.tach = s.tach := rfl
@[simp] theorem State.discardWindow_frontEnd (s : State) : s.discardWindow.frontEnd = s.frontEnd.closeCapture := rfl
@[simp] theorem State.discardWindow_scan (s : State) : s.discardWindow.scan = none := rfl
@[simp] theorem State.discardWindow_table (s : State) : s.discardWindow.table = s.table := rfl
@[simp] theorem State.discardWindow_blockage (s : State) : s.discardWindow.blockage = s.blockage := rfl
@[simp] theorem State.discardWindow_sequence (s : State) : s.discardWindow.sequence = s.sequence := rfl
@[simp] theorem State.discardWindow_readWindow (s : State) : s.discardWindow.readWindow = s.readWindow := rfl
@[simp] theorem State.discardWindow_pockets (s : State) : s.discardWindow.pockets = s.pockets := rfl
@[simp] theorem State.discardWindow_line (s : State) : s.discardWindow.line = s.line := rfl
@[simp] theorem State.discardWindow_pending (s : State) : s.discardWindow.pending = s.pending := rfl
@[simp] theorem State.discardWindow_cfg (s : State) : s.discardWindow.cfg = s.cfg := rfl

@[simp] theorem State.discardWindowOf_pins (s : State) (id : LetterId) : (s.discardWindowOf id).pins = s.pins := rfl
@[simp] theorem State.discardWindowOf_runState (s : State) (id : LetterId) : (s.discardWindowOf id).runState = s.runState := rfl
@[simp] theorem State.discardWindowOf_straps (s : State) (id : LetterId) : (s.discardWindowOf id).straps = s.straps := rfl
@[simp] theorem State.discardWindowOf_config (s : State) (id : LetterId) : (s.discardWindowOf id).config = s.config := rfl
@[simp] theorem State.discardWindowOf_loader (s : State) (id : LetterId) : (s.discardWindowOf id).loader = s.loader := rfl
@[simp] theorem State.discardWindowOf_powerLost (s : State) (id : LetterId) : (s.discardWindowOf id).powerLost = s.powerLost := rfl
@[simp] theorem State.discardWindowOf_haltedAtEntry (s : State) (id : LetterId) : (s.discardWindowOf id).haltedAtEntry = s.haltedAtEntry := rfl
@[simp] theorem State.discardWindowOf_stopReleased (s : State) (id : LetterId) : (s.discardWindowOf id).stopReleased = s.stopReleased := rfl
@[simp] theorem State.discardWindowOf_conditions (s : State) (id : LetterId) : (s.discardWindowOf id).conditions = s.conditions := rfl
@[simp] theorem State.discardWindowOf_counters (s : State) (id : LetterId) : (s.discardWindowOf id).counters = s.counters := rfl
@[simp] theorem State.discardWindowOf_tach (s : State) (id : LetterId) : (s.discardWindowOf id).tach = s.tach := rfl
@[simp] theorem State.discardWindowOf_frontEnd (s : State) (id : LetterId) : (s.discardWindowOf id).frontEnd = if s.windowIs id then s.frontEnd.closeCapture else s.frontEnd := rfl
@[simp] theorem State.discardWindowOf_scan (s : State) (id : LetterId) : (s.discardWindowOf id).scan = if s.windowIs id then none else s.scan := rfl
@[simp] theorem State.discardWindowOf_table (s : State) (id : LetterId) : (s.discardWindowOf id).table = s.table := rfl
@[simp] theorem State.discardWindowOf_blockage (s : State) (id : LetterId) : (s.discardWindowOf id).blockage = s.blockage := rfl
@[simp] theorem State.discardWindowOf_sequence (s : State) (id : LetterId) : (s.discardWindowOf id).sequence = s.sequence := rfl
@[simp] theorem State.discardWindowOf_readWindow (s : State) (id : LetterId) : (s.discardWindowOf id).readWindow = s.readWindow := rfl
@[simp] theorem State.discardWindowOf_pockets (s : State) (id : LetterId) : (s.discardWindowOf id).pockets = s.pockets := rfl
@[simp] theorem State.discardWindowOf_line (s : State) (id : LetterId) : (s.discardWindowOf id).line = s.line := rfl
@[simp] theorem State.discardWindowOf_pending (s : State) (id : LetterId) : (s.discardWindowOf id).pending = s.pending := rfl
@[simp] theorem State.discardWindowOf_cfg (s : State) (id : LetterId) : (s.discardWindowOf id).cfg = s.cfg := rfl

@[simp] theorem State.openWindow_pins (s : State) (id : LetterId) : (s.openWindow id).pins = s.pins := rfl
@[simp] theorem State.openWindow_runState (s : State) (id : LetterId) : (s.openWindow id).runState = s.runState := rfl
@[simp] theorem State.openWindow_straps (s : State) (id : LetterId) : (s.openWindow id).straps = s.straps := rfl
@[simp] theorem State.openWindow_config (s : State) (id : LetterId) : (s.openWindow id).config = s.config := rfl
@[simp] theorem State.openWindow_loader (s : State) (id : LetterId) : (s.openWindow id).loader = s.loader := rfl
@[simp] theorem State.openWindow_powerLost (s : State) (id : LetterId) : (s.openWindow id).powerLost = s.powerLost := rfl
@[simp] theorem State.openWindow_haltedAtEntry (s : State) (id : LetterId) : (s.openWindow id).haltedAtEntry = s.haltedAtEntry := rfl
@[simp] theorem State.openWindow_stopReleased (s : State) (id : LetterId) : (s.openWindow id).stopReleased = s.stopReleased := rfl
@[simp] theorem State.openWindow_conditions (s : State) (id : LetterId) : (s.openWindow id).conditions = s.conditions := rfl
@[simp] theorem State.openWindow_counters (s : State) (id : LetterId) : (s.openWindow id).counters = s.counters := rfl
@[simp] theorem State.openWindow_tach (s : State) (id : LetterId) : (s.openWindow id).tach = s.tach := rfl
@[simp] theorem State.openWindow_frontEnd (s : State) (id : LetterId) : (s.openWindow id).frontEnd = if s.cfg.scanner then s.frontEnd.seekQuiet else s.frontEnd := rfl
@[simp] theorem State.openWindow_scan (s : State) (id : LetterId) : (s.openWindow id).scan = if s.cfg.scanner then some (newScanRecord id) else s.scan := rfl
@[simp] theorem State.openWindow_table (s : State) (id : LetterId) : (s.openWindow id).table = s.table := rfl
@[simp] theorem State.openWindow_blockage (s : State) (id : LetterId) : (s.openWindow id).blockage = s.blockage := rfl
@[simp] theorem State.openWindow_sequence (s : State) (id : LetterId) : (s.openWindow id).sequence = s.sequence := rfl
@[simp] theorem State.openWindow_readWindow (s : State) (id : LetterId) : (s.openWindow id).readWindow = s.readWindow := rfl
@[simp] theorem State.openWindow_pockets (s : State) (id : LetterId) : (s.openWindow id).pockets = s.pockets := rfl
@[simp] theorem State.openWindow_line (s : State) (id : LetterId) : (s.openWindow id).line = s.line := rfl
@[simp] theorem State.openWindow_pending (s : State) (id : LetterId) : (s.openWindow id).pending = s.pending := rfl
@[simp] theorem State.openWindow_cfg (s : State) (id : LetterId) : (s.openWindow id).cfg = s.cfg := rfl

@[simp] theorem State.removeEntry_pins (s : State) (id : LetterId) : (s.removeEntry id).pins = s.pins := rfl
@[simp] theorem State.removeEntry_runState (s : State) (id : LetterId) : (s.removeEntry id).runState = s.runState := rfl
@[simp] theorem State.removeEntry_straps (s : State) (id : LetterId) : (s.removeEntry id).straps = s.straps := rfl
@[simp] theorem State.removeEntry_config (s : State) (id : LetterId) : (s.removeEntry id).config = s.config := rfl
@[simp] theorem State.removeEntry_loader (s : State) (id : LetterId) : (s.removeEntry id).loader = s.loader := rfl
@[simp] theorem State.removeEntry_powerLost (s : State) (id : LetterId) : (s.removeEntry id).powerLost = s.powerLost := rfl
@[simp] theorem State.removeEntry_haltedAtEntry (s : State) (id : LetterId) : (s.removeEntry id).haltedAtEntry = s.haltedAtEntry := rfl
@[simp] theorem State.removeEntry_stopReleased (s : State) (id : LetterId) : (s.removeEntry id).stopReleased = s.stopReleased := rfl
@[simp] theorem State.removeEntry_conditions (s : State) (id : LetterId) : (s.removeEntry id).conditions = s.conditions := rfl
@[simp] theorem State.removeEntry_counters (s : State) (id : LetterId) : (s.removeEntry id).counters = s.counters := rfl
@[simp] theorem State.removeEntry_tach (s : State) (id : LetterId) : (s.removeEntry id).tach = s.tach := rfl
@[simp] theorem State.removeEntry_frontEnd (s : State) (id : LetterId) : (s.removeEntry id).frontEnd = if s.windowIs id then s.frontEnd.closeCapture else s.frontEnd := rfl
@[simp] theorem State.removeEntry_scan (s : State) (id : LetterId) : (s.removeEntry id).scan = if s.windowIs id then none else s.scan := rfl
@[simp] theorem State.removeEntry_table (s : State) (id : LetterId) : (s.removeEntry id).table = withoutEntry id s.table := rfl
@[simp] theorem State.removeEntry_blockage (s : State) (id : LetterId) : (s.removeEntry id).blockage = blockageAfterRemoval id s.blockage := rfl
@[simp] theorem State.removeEntry_sequence (s : State) (id : LetterId) : (s.removeEntry id).sequence = s.sequence := rfl
@[simp] theorem State.removeEntry_readWindow (s : State) (id : LetterId) : (s.removeEntry id).readWindow = s.readWindow := rfl
@[simp] theorem State.removeEntry_pockets (s : State) (id : LetterId) : (s.removeEntry id).pockets = s.pockets := rfl
@[simp] theorem State.removeEntry_line (s : State) (id : LetterId) : (s.removeEntry id).line = s.line := rfl
@[simp] theorem State.removeEntry_pending (s : State) (id : LetterId) : (s.removeEntry id).pending = s.pending := rfl
@[simp] theorem State.removeEntry_cfg (s : State) (id : LetterId) : (s.removeEntry id).cfg = s.cfg := rfl

@[simp] theorem State.replaceEntry_pins (s : State) (e : Entry) : (s.replaceEntry e).pins = s.pins := rfl
@[simp] theorem State.replaceEntry_runState (s : State) (e : Entry) : (s.replaceEntry e).runState = s.runState := rfl
@[simp] theorem State.replaceEntry_straps (s : State) (e : Entry) : (s.replaceEntry e).straps = s.straps := rfl
@[simp] theorem State.replaceEntry_config (s : State) (e : Entry) : (s.replaceEntry e).config = s.config := rfl
@[simp] theorem State.replaceEntry_loader (s : State) (e : Entry) : (s.replaceEntry e).loader = s.loader := rfl
@[simp] theorem State.replaceEntry_powerLost (s : State) (e : Entry) : (s.replaceEntry e).powerLost = s.powerLost := rfl
@[simp] theorem State.replaceEntry_haltedAtEntry (s : State) (e : Entry) : (s.replaceEntry e).haltedAtEntry = s.haltedAtEntry := rfl
@[simp] theorem State.replaceEntry_stopReleased (s : State) (e : Entry) : (s.replaceEntry e).stopReleased = s.stopReleased := rfl
@[simp] theorem State.replaceEntry_conditions (s : State) (e : Entry) : (s.replaceEntry e).conditions = s.conditions := rfl
@[simp] theorem State.replaceEntry_counters (s : State) (e : Entry) : (s.replaceEntry e).counters = s.counters := rfl
@[simp] theorem State.replaceEntry_tach (s : State) (e : Entry) : (s.replaceEntry e).tach = s.tach := rfl
@[simp] theorem State.replaceEntry_frontEnd (s : State) (e : Entry) : (s.replaceEntry e).frontEnd = s.frontEnd := rfl
@[simp] theorem State.replaceEntry_scan (s : State) (e : Entry) : (s.replaceEntry e).scan = s.scan := rfl
@[simp] theorem State.replaceEntry_table (s : State) (e : Entry) : (s.replaceEntry e).table = placeEntry e (withoutEntry e.id s.table) := rfl
@[simp] theorem State.replaceEntry_blockage (s : State) (e : Entry) : (s.replaceEntry e).blockage = s.blockage := rfl
@[simp] theorem State.replaceEntry_sequence (s : State) (e : Entry) : (s.replaceEntry e).sequence = s.sequence := rfl
@[simp] theorem State.replaceEntry_readWindow (s : State) (e : Entry) : (s.replaceEntry e).readWindow = s.readWindow := rfl
@[simp] theorem State.replaceEntry_pockets (s : State) (e : Entry) : (s.replaceEntry e).pockets = s.pockets := rfl
@[simp] theorem State.replaceEntry_line (s : State) (e : Entry) : (s.replaceEntry e).line = s.line := rfl
@[simp] theorem State.replaceEntry_pending (s : State) (e : Entry) : (s.replaceEntry e).pending = s.pending := rfl
@[simp] theorem State.replaceEntry_cfg (s : State) (e : Entry) : (s.replaceEntry e).cfg = s.cfg := rfl

@[simp] theorem State.withdrawClaim_pins (s : State) (id : LetterId) : (s.withdrawClaim id).pins = s.pins := rfl
@[simp] theorem State.withdrawClaim_runState (s : State) (id : LetterId) : (s.withdrawClaim id).runState = s.runState := rfl
@[simp] theorem State.withdrawClaim_straps (s : State) (id : LetterId) : (s.withdrawClaim id).straps = s.straps := rfl
@[simp] theorem State.withdrawClaim_config (s : State) (id : LetterId) : (s.withdrawClaim id).config = s.config := rfl
@[simp] theorem State.withdrawClaim_loader (s : State) (id : LetterId) : (s.withdrawClaim id).loader = s.loader := rfl
@[simp] theorem State.withdrawClaim_powerLost (s : State) (id : LetterId) : (s.withdrawClaim id).powerLost = s.powerLost := rfl
@[simp] theorem State.withdrawClaim_haltedAtEntry (s : State) (id : LetterId) : (s.withdrawClaim id).haltedAtEntry = s.haltedAtEntry := rfl
@[simp] theorem State.withdrawClaim_stopReleased (s : State) (id : LetterId) : (s.withdrawClaim id).stopReleased = s.stopReleased := rfl
@[simp] theorem State.withdrawClaim_conditions (s : State) (id : LetterId) : (s.withdrawClaim id).conditions = s.conditions := rfl
@[simp] theorem State.withdrawClaim_counters (s : State) (id : LetterId) : (s.withdrawClaim id).counters = s.counters := rfl
@[simp] theorem State.withdrawClaim_tach (s : State) (id : LetterId) : (s.withdrawClaim id).tach = s.tach := rfl
@[simp] theorem State.withdrawClaim_frontEnd (s : State) (id : LetterId) : (s.withdrawClaim id).frontEnd = s.frontEnd := rfl
@[simp] theorem State.withdrawClaim_scan (s : State) (id : LetterId) : (s.withdrawClaim id).scan = s.scan := rfl
@[simp] theorem State.withdrawClaim_table (s : State) (id : LetterId) : (s.withdrawClaim id).table = s.table := rfl
@[simp] theorem State.withdrawClaim_blockage (s : State) (id : LetterId) : (s.withdrawClaim id).blockage = s.blockage := rfl
@[simp] theorem State.withdrawClaim_sequence (s : State) (id : LetterId) : (s.withdrawClaim id).sequence = s.sequence := rfl
@[simp] theorem State.withdrawClaim_readWindow (s : State) (id : LetterId) : (s.withdrawClaim id).readWindow = s.readWindow := rfl
@[simp] theorem State.withdrawClaim_pockets (s : State) (id : LetterId) : (s.withdrawClaim id).pockets = s.pockets := rfl
@[simp] theorem State.withdrawClaim_line (s : State) (id : LetterId) : (s.withdrawClaim id).line = { s.line with queue := s.line.queue.filter (fun q => !isClaimFor id q.frame) } := rfl
@[simp] theorem State.withdrawClaim_pending (s : State) (id : LetterId) : (s.withdrawClaim id).pending = s.pending := rfl
@[simp] theorem State.withdrawClaim_cfg (s : State) (id : LetterId) : (s.withdrawClaim id).cfg = s.cfg := rfl

@[simp] theorem State.purgeLetters_pins (s : State) : s.purgeLetters.pins = s.pins := rfl
@[simp] theorem State.purgeLetters_runState (s : State) : s.purgeLetters.runState = s.runState := rfl
@[simp] theorem State.purgeLetters_straps (s : State) : s.purgeLetters.straps = s.straps := rfl
@[simp] theorem State.purgeLetters_config (s : State) : s.purgeLetters.config = s.config := rfl
@[simp] theorem State.purgeLetters_loader (s : State) : s.purgeLetters.loader = s.loader := rfl
@[simp] theorem State.purgeLetters_powerLost (s : State) : s.purgeLetters.powerLost = s.powerLost := rfl
@[simp] theorem State.purgeLetters_haltedAtEntry (s : State) : s.purgeLetters.haltedAtEntry = s.haltedAtEntry := rfl
@[simp] theorem State.purgeLetters_stopReleased (s : State) : s.purgeLetters.stopReleased = s.stopReleased := rfl
@[simp] theorem State.purgeLetters_conditions (s : State) : s.purgeLetters.conditions = s.conditions := rfl
@[simp] theorem State.purgeLetters_counters (s : State) : s.purgeLetters.counters = s.counters := rfl
@[simp] theorem State.purgeLetters_tach (s : State) : s.purgeLetters.tach = s.tach := rfl
@[simp] theorem State.purgeLetters_frontEnd (s : State) : s.purgeLetters.frontEnd = s.frontEnd := rfl
@[simp] theorem State.purgeLetters_scan (s : State) : s.purgeLetters.scan = s.scan := rfl
@[simp] theorem State.purgeLetters_table (s : State) : s.purgeLetters.table = s.table := rfl
@[simp] theorem State.purgeLetters_blockage (s : State) : s.purgeLetters.blockage = s.blockage := rfl
@[simp] theorem State.purgeLetters_sequence (s : State) : s.purgeLetters.sequence = s.sequence := rfl
@[simp] theorem State.purgeLetters_readWindow (s : State) : s.purgeLetters.readWindow = s.readWindow := rfl
@[simp] theorem State.purgeLetters_pockets (s : State) : s.purgeLetters.pockets = s.pockets := rfl
@[simp] theorem State.purgeLetters_line (s : State) : s.purgeLetters.line = { s.line with queue := s.line.queue.filter (fun q => !isLetterFrame q.frame) } := rfl
@[simp] theorem State.purgeLetters_pending (s : State) : s.purgeLetters.pending = s.pending := rfl
@[simp] theorem State.purgeLetters_cfg (s : State) : s.purgeLetters.cfg = s.cfg := rfl

@[simp] theorem State.enqueue_pins (s : State) (f : Frame) : (s.enqueue f).pins = s.pins := rfl
@[simp] theorem State.enqueue_runState (s : State) (f : Frame) : (s.enqueue f).runState = s.runState := rfl
@[simp] theorem State.enqueue_straps (s : State) (f : Frame) : (s.enqueue f).straps = s.straps := rfl
@[simp] theorem State.enqueue_config (s : State) (f : Frame) : (s.enqueue f).config = s.config := rfl
@[simp] theorem State.enqueue_loader (s : State) (f : Frame) : (s.enqueue f).loader = s.loader := rfl
@[simp] theorem State.enqueue_powerLost (s : State) (f : Frame) : (s.enqueue f).powerLost = s.powerLost := rfl
@[simp] theorem State.enqueue_haltedAtEntry (s : State) (f : Frame) : (s.enqueue f).haltedAtEntry = s.haltedAtEntry := rfl
@[simp] theorem State.enqueue_stopReleased (s : State) (f : Frame) : (s.enqueue f).stopReleased = s.stopReleased := rfl
@[simp] theorem State.enqueue_counters (s : State) (f : Frame) : (s.enqueue f).counters = s.counters := rfl
@[simp] theorem State.enqueue_tach (s : State) (f : Frame) : (s.enqueue f).tach = s.tach := rfl
@[simp] theorem State.enqueue_frontEnd (s : State) (f : Frame) : (s.enqueue f).frontEnd = s.frontEnd := rfl
@[simp] theorem State.enqueue_scan (s : State) (f : Frame) : (s.enqueue f).scan = s.scan := rfl
@[simp] theorem State.enqueue_table (s : State) (f : Frame) : (s.enqueue f).table = s.table := rfl
@[simp] theorem State.enqueue_blockage (s : State) (f : Frame) : (s.enqueue f).blockage = s.blockage := rfl
@[simp] theorem State.enqueue_sequence (s : State) (f : Frame) : (s.enqueue f).sequence = s.sequence := rfl
@[simp] theorem State.enqueue_readWindow (s : State) (f : Frame) : (s.enqueue f).readWindow = s.readWindow := rfl
@[simp] theorem State.enqueue_pockets (s : State) (f : Frame) : (s.enqueue f).pockets = s.pockets := rfl
@[simp] theorem State.enqueue_pending (s : State) (f : Frame) : (s.enqueue f).pending = s.pending := rfl
@[simp] theorem State.enqueue_cfg (s : State) (f : Frame) : (s.enqueue f).cfg = s.cfg := rfl

@[simp] theorem State.formPocket_pins (s : State) (k : Fin 4) : (s.formPocket k).pins = s.pins := rfl
@[simp] theorem State.formPocket_runState (s : State) (k : Fin 4) : (s.formPocket k).runState = s.runState := rfl
@[simp] theorem State.formPocket_straps (s : State) (k : Fin 4) : (s.formPocket k).straps = s.straps := rfl
@[simp] theorem State.formPocket_config (s : State) (k : Fin 4) : (s.formPocket k).config = s.config := rfl
@[simp] theorem State.formPocket_loader (s : State) (k : Fin 4) : (s.formPocket k).loader = s.loader := rfl
@[simp] theorem State.formPocket_powerLost (s : State) (k : Fin 4) : (s.formPocket k).powerLost = s.powerLost := rfl
@[simp] theorem State.formPocket_haltedAtEntry (s : State) (k : Fin 4) : (s.formPocket k).haltedAtEntry = s.haltedAtEntry := rfl
@[simp] theorem State.formPocket_stopReleased (s : State) (k : Fin 4) : (s.formPocket k).stopReleased = s.stopReleased := rfl
@[simp] theorem State.formPocket_conditions (s : State) (k : Fin 4) : (s.formPocket k).conditions = pocketConditions (s.pockets.set k (s.reformed k)) s.conditions := rfl
@[simp] theorem State.formPocket_counters (s : State) (k : Fin 4) : (s.formPocket k).counters = s.counters := rfl
@[simp] theorem State.formPocket_tach (s : State) (k : Fin 4) : (s.formPocket k).tach = s.tach := rfl
@[simp] theorem State.formPocket_frontEnd (s : State) (k : Fin 4) : (s.formPocket k).frontEnd = s.frontEnd := rfl
@[simp] theorem State.formPocket_scan (s : State) (k : Fin 4) : (s.formPocket k).scan = s.scan := rfl
@[simp] theorem State.formPocket_table (s : State) (k : Fin 4) : (s.formPocket k).table = s.table := rfl
@[simp] theorem State.formPocket_blockage (s : State) (k : Fin 4) : (s.formPocket k).blockage = s.blockage := rfl
@[simp] theorem State.formPocket_sequence (s : State) (k : Fin 4) : (s.formPocket k).sequence = s.sequence := rfl
@[simp] theorem State.formPocket_readWindow (s : State) (k : Fin 4) : (s.formPocket k).readWindow = s.readWindow := rfl
@[simp] theorem State.formPocket_pockets (s : State) (k : Fin 4) : (s.formPocket k).pockets = s.pockets.set k (s.reformed k) := rfl
@[simp] theorem State.formPocket_line (s : State) (k : Fin 4) : (s.formPocket k).line = s.line := rfl
@[simp] theorem State.formPocket_pending (s : State) (k : Fin 4) : (s.formPocket k).pending = s.pending := rfl
@[simp] theorem State.formPocket_cfg (s : State) (k : Fin 4) : (s.formPocket k).cfg = s.cfg := rfl

@[simp] theorem State.formAllPockets_pins (s : State) : s.formAllPockets.pins = s.pins := rfl
@[simp] theorem State.formAllPockets_runState (s : State) : s.formAllPockets.runState = s.runState := rfl
@[simp] theorem State.formAllPockets_straps (s : State) : s.formAllPockets.straps = s.straps := rfl
@[simp] theorem State.formAllPockets_config (s : State) : s.formAllPockets.config = s.config := rfl
@[simp] theorem State.formAllPockets_loader (s : State) : s.formAllPockets.loader = s.loader := rfl
@[simp] theorem State.formAllPockets_powerLost (s : State) : s.formAllPockets.powerLost = s.powerLost := rfl
@[simp] theorem State.formAllPockets_haltedAtEntry (s : State) : s.formAllPockets.haltedAtEntry = s.haltedAtEntry := rfl
@[simp] theorem State.formAllPockets_stopReleased (s : State) : s.formAllPockets.stopReleased = s.stopReleased := rfl
@[simp] theorem State.formAllPockets_counters (s : State) : s.formAllPockets.counters = s.counters := rfl
@[simp] theorem State.formAllPockets_tach (s : State) : s.formAllPockets.tach = s.tach := rfl
@[simp] theorem State.formAllPockets_frontEnd (s : State) : s.formAllPockets.frontEnd = s.frontEnd := rfl
@[simp] theorem State.formAllPockets_scan (s : State) : s.formAllPockets.scan = s.scan := rfl
@[simp] theorem State.formAllPockets_table (s : State) : s.formAllPockets.table = s.table := rfl
@[simp] theorem State.formAllPockets_blockage (s : State) : s.formAllPockets.blockage = s.blockage := rfl
@[simp] theorem State.formAllPockets_sequence (s : State) : s.formAllPockets.sequence = s.sequence := rfl
@[simp] theorem State.formAllPockets_readWindow (s : State) : s.formAllPockets.readWindow = s.readWindow := rfl
@[simp] theorem State.formAllPockets_pockets (s : State) : s.formAllPockets.pockets = ⟨s.reformed 0, s.reformed 1, s.reformed 2, s.reformed 3⟩ := rfl
@[simp] theorem State.formAllPockets_line (s : State) : s.formAllPockets.line = s.line := rfl
@[simp] theorem State.formAllPockets_pending (s : State) : s.formAllPockets.pending = s.pending := rfl
@[simp] theorem State.formAllPockets_cfg (s : State) : s.formAllPockets.cfg = s.cfg := rfl

@[simp] theorem State.countMiss_pins (s : State) (k : Fin 4) : (s.countMiss k).pins = s.pins := rfl
@[simp] theorem State.countMiss_runState (s : State) (k : Fin 4) : (s.countMiss k).runState = s.runState := rfl
@[simp] theorem State.countMiss_straps (s : State) (k : Fin 4) : (s.countMiss k).straps = s.straps := rfl
@[simp] theorem State.countMiss_config (s : State) (k : Fin 4) : (s.countMiss k).config = s.config := rfl
@[simp] theorem State.countMiss_loader (s : State) (k : Fin 4) : (s.countMiss k).loader = s.loader := rfl
@[simp] theorem State.countMiss_powerLost (s : State) (k : Fin 4) : (s.countMiss k).powerLost = s.powerLost := rfl
@[simp] theorem State.countMiss_haltedAtEntry (s : State) (k : Fin 4) : (s.countMiss k).haltedAtEntry = s.haltedAtEntry := rfl
@[simp] theorem State.countMiss_stopReleased (s : State) (k : Fin 4) : (s.countMiss k).stopReleased = s.stopReleased := rfl
@[simp] theorem State.countMiss_counters (s : State) (k : Fin 4) : (s.countMiss k).counters = s.counters := rfl
@[simp] theorem State.countMiss_tach (s : State) (k : Fin 4) : (s.countMiss k).tach = s.tach := rfl
@[simp] theorem State.countMiss_frontEnd (s : State) (k : Fin 4) : (s.countMiss k).frontEnd = s.frontEnd := rfl
@[simp] theorem State.countMiss_scan (s : State) (k : Fin 4) : (s.countMiss k).scan = s.scan := rfl
@[simp] theorem State.countMiss_table (s : State) (k : Fin 4) : (s.countMiss k).table = s.table := rfl
@[simp] theorem State.countMiss_blockage (s : State) (k : Fin 4) : (s.countMiss k).blockage = s.blockage := rfl
@[simp] theorem State.countMiss_sequence (s : State) (k : Fin 4) : (s.countMiss k).sequence = s.sequence := rfl
@[simp] theorem State.countMiss_readWindow (s : State) (k : Fin 4) : (s.countMiss k).readWindow = s.readWindow := rfl
@[simp] theorem State.countMiss_line (s : State) (k : Fin 4) : (s.countMiss k).line = s.line := rfl
@[simp] theorem State.countMiss_pending (s : State) (k : Fin 4) : (s.countMiss k).pending = s.pending := rfl
@[simp] theorem State.countMiss_cfg (s : State) (k : Fin 4) : (s.countMiss k).cfg = s.cfg := rfl

@[simp] theorem State.dropOp_pins (s : State) (k : Fin 4) (o : GateOp) : (s.dropOp k o).pins = s.pins := rfl
@[simp] theorem State.dropOp_runState (s : State) (k : Fin 4) (o : GateOp) : (s.dropOp k o).runState = s.runState := rfl
@[simp] theorem State.dropOp_straps (s : State) (k : Fin 4) (o : GateOp) : (s.dropOp k o).straps = s.straps := rfl
@[simp] theorem State.dropOp_config (s : State) (k : Fin 4) (o : GateOp) : (s.dropOp k o).config = s.config := rfl
@[simp] theorem State.dropOp_loader (s : State) (k : Fin 4) (o : GateOp) : (s.dropOp k o).loader = s.loader := rfl
@[simp] theorem State.dropOp_powerLost (s : State) (k : Fin 4) (o : GateOp) : (s.dropOp k o).powerLost = s.powerLost := rfl
@[simp] theorem State.dropOp_haltedAtEntry (s : State) (k : Fin 4) (o : GateOp) : (s.dropOp k o).haltedAtEntry = s.haltedAtEntry := rfl
@[simp] theorem State.dropOp_stopReleased (s : State) (k : Fin 4) (o : GateOp) : (s.dropOp k o).stopReleased = s.stopReleased := rfl
@[simp] theorem State.dropOp_conditions (s : State) (k : Fin 4) (o : GateOp) : (s.dropOp k o).conditions = s.conditions := rfl
@[simp] theorem State.dropOp_counters (s : State) (k : Fin 4) (o : GateOp) : (s.dropOp k o).counters = s.counters := rfl
@[simp] theorem State.dropOp_tach (s : State) (k : Fin 4) (o : GateOp) : (s.dropOp k o).tach = s.tach := rfl
@[simp] theorem State.dropOp_frontEnd (s : State) (k : Fin 4) (o : GateOp) : (s.dropOp k o).frontEnd = s.frontEnd := rfl
@[simp] theorem State.dropOp_scan (s : State) (k : Fin 4) (o : GateOp) : (s.dropOp k o).scan = s.scan := rfl
@[simp] theorem State.dropOp_table (s : State) (k : Fin 4) (o : GateOp) : (s.dropOp k o).table = s.table := rfl
@[simp] theorem State.dropOp_blockage (s : State) (k : Fin 4) (o : GateOp) : (s.dropOp k o).blockage = s.blockage := rfl
@[simp] theorem State.dropOp_sequence (s : State) (k : Fin 4) (o : GateOp) : (s.dropOp k o).sequence = s.sequence := rfl
@[simp] theorem State.dropOp_readWindow (s : State) (k : Fin 4) (o : GateOp) : (s.dropOp k o).readWindow = s.readWindow := rfl
@[simp] theorem State.dropOp_line (s : State) (k : Fin 4) (o : GateOp) : (s.dropOp k o).line = s.line := rfl
@[simp] theorem State.dropOp_pending (s : State) (k : Fin 4) (o : GateOp) : (s.dropOp k o).pending = s.pending := rfl
@[simp] theorem State.dropOp_cfg (s : State) (k : Fin 4) (o : GateOp) : (s.dropOp k o).cfg = s.cfg := rfl

@[simp] theorem State.cancelOp_pins (s : State) (k : Fin 4) (id : LetterId) : (s.cancelOp k id).pins = s.pins := rfl
@[simp] theorem State.cancelOp_runState (s : State) (k : Fin 4) (id : LetterId) : (s.cancelOp k id).runState = s.runState := rfl
@[simp] theorem State.cancelOp_straps (s : State) (k : Fin 4) (id : LetterId) : (s.cancelOp k id).straps = s.straps := rfl
@[simp] theorem State.cancelOp_config (s : State) (k : Fin 4) (id : LetterId) : (s.cancelOp k id).config = s.config := rfl
@[simp] theorem State.cancelOp_loader (s : State) (k : Fin 4) (id : LetterId) : (s.cancelOp k id).loader = s.loader := rfl
@[simp] theorem State.cancelOp_powerLost (s : State) (k : Fin 4) (id : LetterId) : (s.cancelOp k id).powerLost = s.powerLost := rfl
@[simp] theorem State.cancelOp_haltedAtEntry (s : State) (k : Fin 4) (id : LetterId) : (s.cancelOp k id).haltedAtEntry = s.haltedAtEntry := rfl
@[simp] theorem State.cancelOp_stopReleased (s : State) (k : Fin 4) (id : LetterId) : (s.cancelOp k id).stopReleased = s.stopReleased := rfl
@[simp] theorem State.cancelOp_conditions (s : State) (k : Fin 4) (id : LetterId) : (s.cancelOp k id).conditions = s.conditions := rfl
@[simp] theorem State.cancelOp_counters (s : State) (k : Fin 4) (id : LetterId) : (s.cancelOp k id).counters = s.counters := rfl
@[simp] theorem State.cancelOp_tach (s : State) (k : Fin 4) (id : LetterId) : (s.cancelOp k id).tach = s.tach := rfl
@[simp] theorem State.cancelOp_frontEnd (s : State) (k : Fin 4) (id : LetterId) : (s.cancelOp k id).frontEnd = s.frontEnd := rfl
@[simp] theorem State.cancelOp_scan (s : State) (k : Fin 4) (id : LetterId) : (s.cancelOp k id).scan = s.scan := rfl
@[simp] theorem State.cancelOp_table (s : State) (k : Fin 4) (id : LetterId) : (s.cancelOp k id).table = s.table := rfl
@[simp] theorem State.cancelOp_blockage (s : State) (k : Fin 4) (id : LetterId) : (s.cancelOp k id).blockage = s.blockage := rfl
@[simp] theorem State.cancelOp_sequence (s : State) (k : Fin 4) (id : LetterId) : (s.cancelOp k id).sequence = s.sequence := rfl
@[simp] theorem State.cancelOp_readWindow (s : State) (k : Fin 4) (id : LetterId) : (s.cancelOp k id).readWindow = s.readWindow := rfl
@[simp] theorem State.cancelOp_line (s : State) (k : Fin 4) (id : LetterId) : (s.cancelOp k id).line = s.line := rfl
@[simp] theorem State.cancelOp_pending (s : State) (k : Fin 4) (id : LetterId) : (s.cancelOp k id).pending = s.pending := rfl
@[simp] theorem State.cancelOp_cfg (s : State) (k : Fin 4) (id : LetterId) : (s.cancelOp k id).cfg = s.cfg := rfl

@[simp] theorem State.leaveJammed_pins (s : State) : s.leaveJammed.pins = s.pins := rfl
@[simp] theorem State.leaveJammed_runState (s : State) : s.leaveJammed.runState = .running := rfl
@[simp] theorem State.leaveJammed_straps (s : State) : s.leaveJammed.straps = s.straps := rfl
@[simp] theorem State.leaveJammed_config (s : State) : s.leaveJammed.config = s.config := rfl
@[simp] theorem State.leaveJammed_loader (s : State) : s.leaveJammed.loader = s.loader := rfl
@[simp] theorem State.leaveJammed_powerLost (s : State) : s.leaveJammed.powerLost = s.powerLost := rfl
@[simp] theorem State.leaveJammed_haltedAtEntry (s : State) : s.leaveJammed.haltedAtEntry = s.haltedAtEntry := rfl
@[simp] theorem State.leaveJammed_stopReleased (s : State) : s.leaveJammed.stopReleased = s.stopReleased := rfl
@[simp] theorem State.leaveJammed_conditions (s : State) : s.leaveJammed.conditions = s.conditions.setTo .jammed false := rfl
@[simp] theorem State.leaveJammed_counters (s : State) : s.leaveJammed.counters = s.counters := rfl
@[simp] theorem State.leaveJammed_tach (s : State) : s.leaveJammed.tach = s.tach := rfl
@[simp] theorem State.leaveJammed_frontEnd (s : State) : s.leaveJammed.frontEnd = s.frontEnd := rfl
@[simp] theorem State.leaveJammed_scan (s : State) : s.leaveJammed.scan = s.scan := rfl
@[simp] theorem State.leaveJammed_table (s : State) : s.leaveJammed.table = s.table := rfl
@[simp] theorem State.leaveJammed_blockage (s : State) : s.leaveJammed.blockage = s.blockage := rfl
@[simp] theorem State.leaveJammed_sequence (s : State) : s.leaveJammed.sequence = s.sequence := rfl
@[simp] theorem State.leaveJammed_readWindow (s : State) : s.leaveJammed.readWindow = s.readWindow := rfl
@[simp] theorem State.leaveJammed_pockets (s : State) : s.leaveJammed.pockets = s.pockets := rfl
@[simp] theorem State.leaveJammed_line (s : State) : s.leaveJammed.line = s.line := rfl
@[simp] theorem State.leaveJammed_pending (s : State) : s.leaveJammed.pending = s.pending := rfl
@[simp] theorem State.leaveJammed_cfg (s : State) : s.leaveJammed.cfg = s.cfg := rfl

end Sys2Proof.Machine
end

