-- ==== Sys2Proof/Laws/Frames.lean ====
section
/-! SUPPORT. The fields that each shared operation leaves as they are. -/

set_option linter.unusedTactic false
set_option linter.unreachableTactic false

namespace Sys2Proof.Machine

@[simp] theorem State.acknowledge_pins (s : State) : s.acknowledge.pins = s.pins := rfl
@[simp] theorem State.acknowledge_runState (s : State) : s.acknowledge.runState = s.runState := rfl
@[simp] theorem State.acknowledge_straps (s : State) : s.acknowledge.straps = s.straps := rfl
@[simp] theorem State.acknowledge_config (s : State) : s.acknowledge.config = s.config := rfl
@[simp] theorem State.acknowledge_loader (s : State) : s.acknowledge.loader = s.loader := rfl
@[simp] theorem State.acknowledge_powerLost (s : State) : s.acknowledge.powerLost = s.powerLost := rfl
@[simp] theorem State.acknowledge_haltedAtEntry (s : State) : s.acknowledge.haltedAtEntry = s.haltedAtEntry := rfl
@[simp] theorem State.acknowledge_stopReleased (s : State) : s.acknowledge.stopReleased = s.stopReleased := rfl
@[simp] theorem State.acknowledge_conditions (s : State) : s.acknowledge.conditions = s.conditions := rfl
@[simp] theorem State.acknowledge_counters (s : State) : s.acknowledge.counters = s.counters := rfl
@[simp] theorem State.acknowledge_tach (s : State) : s.acknowledge.tach = s.tach := rfl
@[simp] theorem State.acknowledge_frontEnd (s : State) : s.acknowledge.frontEnd = s.frontEnd := rfl
@[simp] theorem State.acknowledge_scan (s : State) : s.acknowledge.scan = s.scan := rfl
@[simp] theorem State.acknowledge_table (s : State) : s.acknowledge.table = s.table := rfl
@[simp] theorem State.acknowledge_blockage (s : State) : s.acknowledge.blockage = s.blockage := rfl
@[simp] theorem State.acknowledge_sequence (s : State) : s.acknowledge.sequence = s.sequence := rfl
@[simp] theorem State.acknowledge_readWindow (s : State) : s.acknowledge.readWindow = s.readWindow := rfl
@[simp] theorem State.acknowledge_pockets (s : State) : s.acknowledge.pockets = s.pockets := rfl
@[simp] theorem State.acknowledge_pending (s : State) : s.acknowledge.pending = s.pending := rfl
@[simp] theorem State.acknowledge_cfg (s : State) : s.acknowledge.cfg = s.cfg := by simp only [State.cfg, State.acknowledge_config]

/-- State.testSender leaves these fields as they are. -/
theorem State.testSender_frame (s : State) (h : Header) :
    (s.testSender h).pins = s.pins
      ∧ (s.testSender h).runState = s.runState
      ∧ (s.testSender h).straps = s.straps
      ∧ (s.testSender h).config = s.config
      ∧ (s.testSender h).loader = s.loader
      ∧ (s.testSender h).powerLost = s.powerLost
      ∧ (s.testSender h).haltedAtEntry = s.haltedAtEntry
      ∧ (s.testSender h).stopReleased = s.stopReleased
      ∧ (s.testSender h).counters = s.counters
      ∧ (s.testSender h).tach = s.tach
      ∧ (s.testSender h).frontEnd = s.frontEnd
      ∧ (s.testSender h).scan = s.scan
      ∧ (s.testSender h).table = s.table
      ∧ (s.testSender h).blockage = s.blockage
      ∧ (s.testSender h).sequence = s.sequence
      ∧ (s.testSender h).readWindow = s.readWindow
      ∧ (s.testSender h).pockets = s.pockets
      ∧ (s.testSender h).line = s.line
      ∧ (s.testSender h).pending = s.pending := by
  unfold State.testSender; simp
@[simp] theorem State.testSender_pins (s : State) (h : Header) : (s.testSender h).pins = s.pins := (State.testSender_frame s h).1
@[simp] theorem State.testSender_runState (s : State) (h : Header) : (s.testSender h).runState = s.runState := (State.testSender_frame s h).2.1
@[simp] theorem State.testSender_straps (s : State) (h : Header) : (s.testSender h).straps = s.straps := (State.testSender_frame s h).2.2.1
@[simp] theorem State.testSender_config (s : State) (h : Header) : (s.testSender h).config = s.config := (State.testSender_frame s h).2.2.2.1
@[simp] theorem State.testSender_loader (s : State) (h : Header) : (s.testSender h).loader = s.loader := (State.testSender_frame s h).2.2.2.2.1
@[simp] theorem State.testSender_powerLost (s : State) (h : Header) : (s.testSender h).powerLost = s.powerLost := (State.testSender_frame s h).2.2.2.2.2.1
@[simp] theorem State.testSender_haltedAtEntry (s : State) (h : Header) : (s.testSender h).haltedAtEntry = s.haltedAtEntry := (State.testSender_frame s h).2.2.2.2.2.2.1
@[simp] theorem State.testSender_stopReleased (s : State) (h : Header) : (s.testSender h).stopReleased = s.stopReleased := (State.testSender_frame s h).2.2.2.2.2.2.2.1
@[simp] theorem State.testSender_counters (s : State) (h : Header) : (s.testSender h).counters = s.counters := (State.testSender_frame s h).2.2.2.2.2.2.2.2.1
@[simp] theorem State.testSender_tach (s : State) (h : Header) : (s.testSender h).tach = s.tach := (State.testSender_frame s h).2.2.2.2.2.2.2.2.2.1
@[simp] theorem State.testSender_frontEnd (s : State) (h : Header) : (s.testSender h).frontEnd = s.frontEnd := (State.testSender_frame s h).2.2.2.2.2.2.2.2.2.2.1
@[simp] theorem State.testSender_scan (s : State) (h : Header) : (s.testSender h).scan = s.scan := (State.testSender_frame s h).2.2.2.2.2.2.2.2.2.2.2.1
@[simp] theorem State.testSender_table (s : State) (h : Header) : (s.testSender h).table = s.table := (State.testSender_frame s h).2.2.2.2.2.2.2.2.2.2.2.2.1
@[simp] theorem State.testSender_blockage (s : State) (h : Header) : (s.testSender h).blockage = s.blockage := (State.testSender_frame s h).2.2.2.2.2.2.2.2.2.2.2.2.2.1
@[simp] theorem State.testSender_sequence (s : State) (h : Header) : (s.testSender h).sequence = s.sequence := (State.testSender_frame s h).2.2.2.2.2.2.2.2.2.2.2.2.2.2.1
@[simp] theorem State.testSender_readWindow (s : State) (h : Header) : (s.testSender h).readWindow = s.readWindow := (State.testSender_frame s h).2.2.2.2.2.2.2.2.2.2.2.2.2.2.2.1
@[simp] theorem State.testSender_pockets (s : State) (h : Header) : (s.testSender h).pockets = s.pockets := (State.testSender_frame s h).2.2.2.2.2.2.2.2.2.2.2.2.2.2.2.2.1
@[simp] theorem State.testSender_line (s : State) (h : Header) : (s.testSender h).line = s.line := (State.testSender_frame s h).2.2.2.2.2.2.2.2.2.2.2.2.2.2.2.2.2.1
@[simp] theorem State.testSender_pending (s : State) (h : Header) : (s.testSender h).pending = s.pending := (State.testSender_frame s h).2.2.2.2.2.2.2.2.2.2.2.2.2.2.2.2.2.2
@[simp] theorem State.testSender_cfg (s : State) (h : Header) : (s.testSender h).cfg = s.cfg := by simp only [State.cfg, State.testSender_config]

@[simp] theorem State.arrived_pins (s : State) (id : LetterId) : (s.arrived id).pins = s.pins := rfl
@[simp] theorem State.arrived_runState (s : State) (id : LetterId) : (s.arrived id).runState = s.runState := rfl
@[simp] theorem State.arrived_straps (s : State) (id : LetterId) : (s.arrived id).straps = s.straps := rfl
@[simp] theorem State.arrived_config (s : State) (id : LetterId) : (s.arrived id).config = s.config := rfl
@[simp] theorem State.arrived_loader (s : State) (id : LetterId) : (s.arrived id).loader = s.loader := rfl
@[simp] theorem State.arrived_powerLost (s : State) (id : LetterId) : (s.arrived id).powerLost = s.powerLost := rfl
@[simp] theorem State.arrived_haltedAtEntry (s : State) (id : LetterId) : (s.arrived id).haltedAtEntry = s.haltedAtEntry := rfl
@[simp] theorem State.arrived_stopReleased (s : State) (id : LetterId) : (s.arrived id).stopReleased = s.stopReleased := rfl
@[simp] theorem State.arrived_conditions (s : State) (id : LetterId) : (s.arrived id).conditions = s.conditions := rfl
@[simp] theorem State.arrived_counters (s : State) (id : LetterId) : (s.arrived id).counters = s.counters := rfl
@[simp] theorem State.arrived_tach (s : State) (id : LetterId) : (s.arrived id).tach = s.tach := rfl
@[simp] theorem State.arrived_table (s : State) (id : LetterId) : (s.arrived id).table = s.table := rfl
@[simp] theorem State.arrived_sequence (s : State) (id : LetterId) : (s.arrived id).sequence = s.sequence := rfl
@[simp] theorem State.arrived_readWindow (s : State) (id : LetterId) : (s.arrived id).readWindow = s.readWindow := rfl
@[simp] theorem State.arrived_pockets (s : State) (id : LetterId) : (s.arrived id).pockets = s.pockets := rfl
@[simp] theorem State.arrived_line (s : State) (id : LetterId) : (s.arrived id).line = s.line := rfl
@[simp] theorem State.arrived_pending (s : State) (id : LetterId) : (s.arrived id).pending = s.pending := rfl
@[simp] theorem State.arrived_cfg (s : State) (id : LetterId) : (s.arrived id).cfg = s.cfg := by simp only [State.cfg, State.arrived_config]

@[simp] theorem State.untrackedArrival_pins (s : State) : s.untrackedArrival.pins = s.pins := rfl
@[simp] theorem State.untrackedArrival_runState (s : State) : s.untrackedArrival.runState = s.runState := rfl
@[simp] theorem State.untrackedArrival_straps (s : State) : s.untrackedArrival.straps = s.straps := rfl
@[simp] theorem State.untrackedArrival_config (s : State) : s.untrackedArrival.config = s.config := rfl
@[simp] theorem State.untrackedArrival_loader (s : State) : s.untrackedArrival.loader = s.loader := rfl
@[simp] theorem State.untrackedArrival_powerLost (s : State) : s.untrackedArrival.powerLost = s.powerLost := rfl
@[simp] theorem State.untrackedArrival_haltedAtEntry (s : State) : s.untrackedArrival.haltedAtEntry = s.haltedAtEntry := rfl
@[simp] theorem State.untrackedArrival_stopReleased (s : State) : s.untrackedArrival.stopReleased = s.stopReleased := rfl
@[simp] theorem State.untrackedArrival_conditions (s : State) : s.untrackedArrival.conditions = s.conditions := rfl
@[simp] theorem State.untrackedArrival_counters (s : State) : s.untrackedArrival.counters = s.counters := rfl
@[simp] theorem State.untrackedArrival_tach (s : State) : s.untrackedArrival.tach = s.tach := rfl
@[simp] theorem State.untrackedArrival_frontEnd (s : State) : s.untrackedArrival.frontEnd = s.frontEnd := rfl
@[simp] theorem State.untrackedArrival_scan (s : State) : s.untrackedArrival.scan = s.scan := rfl
@[simp] theorem State.untrackedArrival_table (s : State) : s.untrackedArrival.table = s.table := rfl
@[simp] theorem State.untrackedArrival_sequence (s : State) : s.untrackedArrival.sequence = s.sequence := rfl
@[simp] theorem State.untrackedArrival_readWindow (s : State) : s.untrackedArrival.readWindow = s.readWindow := rfl
@[simp] theorem State.untrackedArrival_pockets (s : State) : s.untrackedArrival.pockets = s.pockets := rfl
@[simp] theorem State.untrackedArrival_line (s : State) : s.untrackedArrival.line = s.line := rfl
@[simp] theorem State.untrackedArrival_pending (s : State) : s.untrackedArrival.pending = s.pending := rfl
@[simp] theorem State.untrackedArrival_cfg (s : State) : s.untrackedArrival.cfg = s.cfg := by simp only [State.cfg, State.untrackedArrival_config]

@[simp] theorem State.halt_pins (s : State) : s.halt.pins = s.pins := rfl
@[simp] theorem State.halt_straps (s : State) : s.halt.straps = s.straps := rfl
@[simp] theorem State.halt_config (s : State) : s.halt.config = none := rfl
@[simp] theorem State.halt_powerLost (s : State) : s.halt.powerLost = s.powerLost := rfl
@[simp] theorem State.halt_haltedAtEntry (s : State) : s.halt.haltedAtEntry = s.haltedAtEntry := rfl
@[simp] theorem State.halt_stopReleased (s : State) : s.halt.stopReleased = s.stopReleased := rfl
@[simp] theorem State.halt_conditions (s : State) : s.halt.conditions = s.conditions := rfl
@[simp] theorem State.halt_counters (s : State) : s.halt.counters = s.counters := rfl
@[simp] theorem State.halt_tach (s : State) : s.halt.tach = s.tach := rfl
@[simp] theorem State.halt_frontEnd (s : State) : s.halt.frontEnd = s.frontEnd := rfl
@[simp] theorem State.halt_scan (s : State) : s.halt.scan = s.scan := rfl
@[simp] theorem State.halt_table (s : State) : s.halt.table = s.table := rfl
@[simp] theorem State.halt_blockage (s : State) : s.halt.blockage = s.blockage := rfl
@[simp] theorem State.halt_sequence (s : State) : s.halt.sequence = s.sequence := rfl
@[simp] theorem State.halt_readWindow (s : State) : s.halt.readWindow = s.readWindow := rfl
@[simp] theorem State.halt_pockets (s : State) : s.halt.pockets = s.pockets := rfl
@[simp] theorem State.halt_line (s : State) : s.halt.line = s.line := rfl
@[simp] theorem State.halt_pending (s : State) : s.halt.pending = s.pending := rfl
@[simp] theorem State.halt_cfg (s : State) : s.halt.cfg = StationConfig.absent := rfl

/-- State.countRead leaves these fields as they are. -/
theorem State.countRead_frame (s : State) (o : ReadOutcome) :
    (s.countRead o).pins = s.pins
      ∧ (s.countRead o).runState = s.runState
      ∧ (s.countRead o).straps = s.straps
      ∧ (s.countRead o).config = s.config
      ∧ (s.countRead o).loader = s.loader
      ∧ (s.countRead o).powerLost = s.powerLost
      ∧ (s.countRead o).haltedAtEntry = s.haltedAtEntry
      ∧ (s.countRead o).stopReleased = s.stopReleased
      ∧ (s.countRead o).tach = s.tach
      ∧ (s.countRead o).frontEnd = s.frontEnd
      ∧ (s.countRead o).scan = s.scan
      ∧ (s.countRead o).table = s.table
      ∧ (s.countRead o).blockage = s.blockage
      ∧ (s.countRead o).sequence = s.sequence
      ∧ (s.countRead o).pockets = s.pockets
      ∧ (s.countRead o).line = s.line
      ∧ (s.countRead o).pending = s.pending := by
  unfold State.countRead; simp
@[simp] theorem State.countRead_pins (s : State) (o : ReadOutcome) : (s.countRead o).pins = s.pins := (State.countRead_frame s o).1
@[simp] theorem State.countRead_runState (s : State) (o : ReadOutcome) : (s.countRead o).runState = s.runState := (State.countRead_frame s o).2.1
@[simp] theorem State.countRead_straps (s : State) (o : ReadOutcome) : (s.countRead o).straps = s.straps := (State.countRead_frame s o).2.2.1
@[simp] theorem State.countRead_config (s : State) (o : ReadOutcome) : (s.countRead o).config = s.config := (State.countRead_frame s o).2.2.2.1
@[simp] theorem State.countRead_loader (s : State) (o : ReadOutcome) : (s.countRead o).loader = s.loader := (State.countRead_frame s o).2.2.2.2.1
@[simp] theorem State.countRead_powerLost (s : State) (o : ReadOutcome) : (s.countRead o).powerLost = s.powerLost := (State.countRead_frame s o).2.2.2.2.2.1
@[simp] theorem State.countRead_haltedAtEntry (s : State) (o : ReadOutcome) : (s.countRead o).haltedAtEntry = s.haltedAtEntry := (State.countRead_frame s o).2.2.2.2.2.2.1
@[simp] theorem State.countRead_stopReleased (s : State) (o : ReadOutcome) : (s.countRead o).stopReleased = s.stopReleased := (State.countRead_frame s o).2.2.2.2.2.2.2.1
@[simp] theorem State.countRead_tach (s : State) (o : ReadOutcome) : (s.countRead o).tach = s.tach := (State.countRead_frame s o).2.2.2.2.2.2.2.2.1
@[simp] theorem State.countRead_frontEnd (s : State) (o : ReadOutcome) : (s.countRead o).frontEnd = s.frontEnd := (State.countRead_frame s o).2.2.2.2.2.2.2.2.2.1
@[simp] theorem State.countRead_scan (s : State) (o : ReadOutcome) : (s.countRead o).scan = s.scan := (State.countRead_frame s o).2.2.2.2.2.2.2.2.2.2.1
@[simp] theorem State.countRead_table (s : State) (o : ReadOutcome) : (s.countRead o).table = s.table := (State.countRead_frame s o).2.2.2.2.2.2.2.2.2.2.2.1
@[simp] theorem State.countRead_blockage (s : State) (o : ReadOutcome) : (s.countRead o).blockage = s.blockage := (State.countRead_frame s o).2.2.2.2.2.2.2.2.2.2.2.2.1
@[simp] theorem State.countRead_sequence (s : State) (o : ReadOutcome) : (s.countRead o).sequence = s.sequence := (State.countRead_frame s o).2.2.2.2.2.2.2.2.2.2.2.2.2.1
@[simp] theorem State.countRead_pockets (s : State) (o : ReadOutcome) : (s.countRead o).pockets = s.pockets := (State.countRead_frame s o).2.2.2.2.2.2.2.2.2.2.2.2.2.2.1
@[simp] theorem State.countRead_line (s : State) (o : ReadOutcome) : (s.countRead o).line = s.line := (State.countRead_frame s o).2.2.2.2.2.2.2.2.2.2.2.2.2.2.2.1
@[simp] theorem State.countRead_pending (s : State) (o : ReadOutcome) : (s.countRead o).pending = s.pending := (State.countRead_frame s o).2.2.2.2.2.2.2.2.2.2.2.2.2.2.2.2
@[simp] theorem State.countRead_cfg (s : State) (o : ReadOutcome) : (s.countRead o).cfg = s.cfg := by simp only [State.cfg, State.countRead_config]

/-- State.createOp leaves these fields as they are. -/
theorem State.createOp_frame (s : State) (k : Fin 4) (e : Entry) :
    (s.createOp k e).pins = s.pins
      ∧ (s.createOp k e).runState = s.runState
      ∧ (s.createOp k e).straps = s.straps
      ∧ (s.createOp k e).config = s.config
      ∧ (s.createOp k e).loader = s.loader
      ∧ (s.createOp k e).powerLost = s.powerLost
      ∧ (s.createOp k e).haltedAtEntry = s.haltedAtEntry
      ∧ (s.createOp k e).stopReleased = s.stopReleased
      ∧ (s.createOp k e).conditions = s.conditions
      ∧ (s.createOp k e).counters = s.counters
      ∧ (s.createOp k e).tach = s.tach
      ∧ (s.createOp k e).frontEnd = s.frontEnd
      ∧ (s.createOp k e).scan = s.scan
      ∧ (s.createOp k e).table = s.table
      ∧ (s.createOp k e).blockage = s.blockage
      ∧ (s.createOp k e).sequence = s.sequence
      ∧ (s.createOp k e).readWindow = s.readWindow
      ∧ (s.createOp k e).line = s.line
      ∧ (s.createOp k e).pending = s.pending := by
  unfold State.createOp; simp
@[simp] theorem State.createOp_pins (s : State) (k : Fin 4) (e : Entry) : (s.createOp k e).pins = s.pins := (State.createOp_frame s k e).1
@[simp] theorem State.createOp_runState (s : State) (k : Fin 4) (e : Entry) : (s.createOp k e).runState = s.runState := (State.createOp_frame s k e).2.1
@[simp] theorem State.createOp_straps (s : State) (k : Fin 4) (e : Entry) : (s.createOp k e).straps = s.straps := (State.createOp_frame s k e).2.2.1
@[simp] theorem State.createOp_config (s : State) (k : Fin 4) (e : Entry) : (s.createOp k e).config = s.config := (State.createOp_frame s k e).2.2.2.1
@[simp] theorem State.createOp_loader (s : State) (k : Fin 4) (e : Entry) : (s.createOp k e).loader = s.loader := (State.createOp_frame s k e).2.2.2.2.1
@[simp] theorem State.createOp_powerLost (s : State) (k : Fin 4) (e : Entry) : (s.createOp k e).powerLost = s.powerLost := (State.createOp_frame s k e).2.2.2.2.2.1
@[simp] theorem State.createOp_haltedAtEntry (s : State) (k : Fin 4) (e : Entry) : (s.createOp k e).haltedAtEntry = s.haltedAtEntry := (State.createOp_frame s k e).2.2.2.2.2.2.1
@[simp] theorem State.createOp_stopReleased (s : State) (k : Fin 4) (e : Entry) : (s.createOp k e).stopReleased = s.stopReleased := (State.createOp_frame s k e).2.2.2.2.2.2.2.1
@[simp] theorem State.createOp_conditions (s : State) (k : Fin 4) (e : Entry) : (s.createOp k e).conditions = s.conditions := (State.createOp_frame s k e).2.2.2.2.2.2.2.2.1
@[simp] theorem State.createOp_counters (s : State) (k : Fin 4) (e : Entry) : (s.createOp k e).counters = s.counters := (State.createOp_frame s k e).2.2.2.2.2.2.2.2.2.1
@[simp] theorem State.createOp_tach (s : State) (k : Fin 4) (e : Entry) : (s.createOp k e).tach = s.tach := (State.createOp_frame s k e).2.2.2.2.2.2.2.2.2.2.1
@[simp] theorem State.createOp_frontEnd (s : State) (k : Fin 4) (e : Entry) : (s.createOp k e).frontEnd = s.frontEnd := (State.createOp_frame s k e).2.2.2.2.2.2.2.2.2.2.2.1
@[simp] theorem State.createOp_scan (s : State) (k : Fin 4) (e : Entry) : (s.createOp k e).scan = s.scan := (State.createOp_frame s k e).2.2.2.2.2.2.2.2.2.2.2.2.1
@[simp] theorem State.createOp_table (s : State) (k : Fin 4) (e : Entry) : (s.createOp k e).table = s.table := (State.createOp_frame s k e).2.2.2.2.2.2.2.2.2.2.2.2.2.1
@[simp] theorem State.createOp_blockage (s : State) (k : Fin 4) (e : Entry) : (s.createOp k e).blockage = s.blockage := (State.createOp_frame s k e).2.2.2.2.2.2.2.2.2.2.2.2.2.2.1
@[simp] theorem State.createOp_sequence (s : State) (k : Fin 4) (e : Entry) : (s.createOp k e).sequence = s.sequence := (State.createOp_frame s k e).2.2.2.2.2.2.2.2.2.2.2.2.2.2.2.1
@[simp] theorem State.createOp_readWindow (s : State) (k : Fin 4) (e : Entry) : (s.createOp k e).readWindow = s.readWindow := (State.createOp_frame s k e).2.2.2.2.2.2.2.2.2.2.2.2.2.2.2.2.1
@[simp] theorem State.createOp_line (s : State) (k : Fin 4) (e : Entry) : (s.createOp k e).line = s.line := (State.createOp_frame s k e).2.2.2.2.2.2.2.2.2.2.2.2.2.2.2.2.2.1
@[simp] theorem State.createOp_pending (s : State) (k : Fin 4) (e : Entry) : (s.createOp k e).pending = s.pending := (State.createOp_frame s k e).2.2.2.2.2.2.2.2.2.2.2.2.2.2.2.2.2.2
@[simp] theorem State.createOp_cfg (s : State) (k : Fin 4) (e : Entry) : (s.createOp k e).cfg = s.cfg := by simp only [State.cfg, State.createOp_config]

@[simp] theorem State.giveTrailing_pins (s : State) (id : LetterId) (x : Pos) : (s.giveTrailing id x).pins = s.pins := rfl
@[simp] theorem State.giveTrailing_runState (s : State) (id : LetterId) (x : Pos) : (s.giveTrailing id x).runState = s.runState := rfl
@[simp] theorem State.giveTrailing_straps (s : State) (id : LetterId) (x : Pos) : (s.giveTrailing id x).straps = s.straps := rfl
@[simp] theorem State.giveTrailing_config (s : State) (id : LetterId) (x : Pos) : (s.giveTrailing id x).config = s.config := rfl
@[simp] theorem State.giveTrailing_loader (s : State) (id : LetterId) (x : Pos) : (s.giveTrailing id x).loader = s.loader := rfl
@[simp] theorem State.giveTrailing_powerLost (s : State) (id : LetterId) (x : Pos) : (s.giveTrailing id x).powerLost = s.powerLost := rfl
@[simp] theorem State.giveTrailing_haltedAtEntry (s : State) (id : LetterId) (x : Pos) : (s.giveTrailing id x).haltedAtEntry = s.haltedAtEntry := rfl
@[simp] theorem State.giveTrailing_stopReleased (s : State) (id : LetterId) (x : Pos) : (s.giveTrailing id x).stopReleased = s.stopReleased := rfl
@[simp] theorem State.giveTrailing_conditions (s : State) (id : LetterId) (x : Pos) : (s.giveTrailing id x).conditions = s.conditions := rfl
@[simp] theorem State.giveTrailing_counters (s : State) (id : LetterId) (x : Pos) : (s.giveTrailing id x).counters = s.counters := rfl
@[simp] theorem State.giveTrailing_tach (s : State) (id : LetterId) (x : Pos) : (s.giveTrailing id x).tach = s.tach := rfl
@[simp] theorem State.giveTrailing_frontEnd (s : State) (id : LetterId) (x : Pos) : (s.giveTrailing id x).frontEnd = s.frontEnd := rfl
@[simp] theorem State.giveTrailing_scan (s : State) (id : LetterId) (x : Pos) : (s.giveTrailing id x).scan = s.scan := rfl
@[simp] theorem State.giveTrailing_table (s : State) (id : LetterId) (x : Pos) : (s.giveTrailing id x).table = s.table := rfl
@[simp] theorem State.giveTrailing_blockage (s : State) (id : LetterId) (x : Pos) : (s.giveTrailing id x).blockage = s.blockage := rfl
@[simp] theorem State.giveTrailing_sequence (s : State) (id : LetterId) (x : Pos) : (s.giveTrailing id x).sequence = s.sequence := rfl
@[simp] theorem State.giveTrailing_readWindow (s : State) (id : LetterId) (x : Pos) : (s.giveTrailing id x).readWindow = s.readWindow := rfl
@[simp] theorem State.giveTrailing_line (s : State) (id : LetterId) (x : Pos) : (s.giveTrailing id x).line = s.line := rfl
@[simp] theorem State.giveTrailing_pending (s : State) (id : LetterId) (x : Pos) : (s.giveTrailing id x).pending = s.pending := rfl
@[simp] theorem State.giveTrailing_cfg (s : State) (id : LetterId) (x : Pos) : (s.giveTrailing id x).cfg = s.cfg := by simp only [State.cfg, State.giveTrailing_config]

/-- State.claimPocket leaves these fields as they are. -/
theorem State.claimPocket_frame (s : State) (k : Fin 4) (e : Entry) :
    (s.claimPocket k e).pins = s.pins
      ∧ (s.claimPocket k e).runState = s.runState
      ∧ (s.claimPocket k e).straps = s.straps
      ∧ (s.claimPocket k e).config = s.config
      ∧ (s.claimPocket k e).loader = s.loader
      ∧ (s.claimPocket k e).powerLost = s.powerLost
      ∧ (s.claimPocket k e).haltedAtEntry = s.haltedAtEntry
      ∧ (s.claimPocket k e).stopReleased = s.stopReleased
      ∧ (s.claimPocket k e).tach = s.tach
      ∧ (s.claimPocket k e).frontEnd = s.frontEnd
      ∧ (s.claimPocket k e).scan = s.scan
      ∧ (s.claimPocket k e).blockage = s.blockage
      ∧ (s.claimPocket k e).sequence = s.sequence
      ∧ (s.claimPocket k e).readWindow = s.readWindow
      ∧ (s.claimPocket k e).pending = s.pending := by
  unfold State.claimPocket; simp
@[simp] theorem State.claimPocket_pins (s : State) (k : Fin 4) (e : Entry) : (s.claimPocket k e).pins = s.pins := (State.claimPocket_frame s k e).1
@[simp] theorem State.claimPocket_runState (s : State) (k : Fin 4) (e : Entry) : (s.claimPocket k e).runState = s.runState := (State.claimPocket_frame s k e).2.1
@[simp] theorem State.claimPocket_straps (s : State) (k : Fin 4) (e : Entry) : (s.claimPocket k e).straps = s.straps := (State.claimPocket_frame s k e).2.2.1
@[simp] theorem State.claimPocket_config (s : State) (k : Fin 4) (e : Entry) : (s.claimPocket k e).config = s.config := (State.claimPocket_frame s k e).2.2.2.1
@[simp] theorem State.claimPocket_loader (s : State) (k : Fin 4) (e : Entry) : (s.claimPocket k e).loader = s.loader := (State.claimPocket_frame s k e).2.2.2.2.1
@[simp] theorem State.claimPocket_powerLost (s : State) (k : Fin 4) (e : Entry) : (s.claimPocket k e).powerLost = s.powerLost := (State.claimPocket_frame s k e).2.2.2.2.2.1
@[simp] theorem State.claimPocket_haltedAtEntry (s : State) (k : Fin 4) (e : Entry) : (s.claimPocket k e).haltedAtEntry = s.haltedAtEntry := (State.claimPocket_frame s k e).2.2.2.2.2.2.1
@[simp] theorem State.claimPocket_stopReleased (s : State) (k : Fin 4) (e : Entry) : (s.claimPocket k e).stopReleased = s.stopReleased := (State.claimPocket_frame s k e).2.2.2.2.2.2.2.1
@[simp] theorem State.claimPocket_tach (s : State) (k : Fin 4) (e : Entry) : (s.claimPocket k e).tach = s.tach := (State.claimPocket_frame s k e).2.2.2.2.2.2.2.2.1
@[simp] theorem State.claimPocket_frontEnd (s : State) (k : Fin 4) (e : Entry) : (s.claimPocket k e).frontEnd = s.frontEnd := (State.claimPocket_frame s k e).2.2.2.2.2.2.2.2.2.1
@[simp] theorem State.claimPocket_scan (s : State) (k : Fin 4) (e : Entry) : (s.claimPocket k e).scan = s.scan := (State.claimPocket_frame s k e).2.2.2.2.2.2.2.2.2.2.1
@[simp] theorem State.claimPocket_blockage (s : State) (k : Fin 4) (e : Entry) : (s.claimPocket k e).blockage = s.blockage := (State.claimPocket_frame s k e).2.2.2.2.2.2.2.2.2.2.2.1
@[simp] theorem State.claimPocket_sequence (s : State) (k : Fin 4) (e : Entry) : (s.claimPocket k e).sequence = s.sequence := (State.claimPocket_frame s k e).2.2.2.2.2.2.2.2.2.2.2.2.1
@[simp] theorem State.claimPocket_readWindow (s : State) (k : Fin 4) (e : Entry) : (s.claimPocket k e).readWindow = s.readWindow := (State.claimPocket_frame s k e).2.2.2.2.2.2.2.2.2.2.2.2.2.1
@[simp] theorem State.claimPocket_pending (s : State) (k : Fin 4) (e : Entry) : (s.claimPocket k e).pending = s.pending := (State.claimPocket_frame s k e).2.2.2.2.2.2.2.2.2.2.2.2.2.2
@[simp] theorem State.claimPocket_cfg (s : State) (k : Fin 4) (e : Entry) : (s.claimPocket k e).cfg = s.cfg := by simp only [State.cfg, State.claimPocket_config]

/-- State.confirm leaves these fields as they are. -/
theorem State.confirm_frame (s : State) (k : Fin 4) (o : GateOp) :
    (s.confirm k o).pins = s.pins
      ∧ (s.confirm k o).runState = s.runState
      ∧ (s.confirm k o).straps = s.straps
      ∧ (s.confirm k o).config = s.config
      ∧ (s.confirm k o).loader = s.loader
      ∧ (s.confirm k o).powerLost = s.powerLost
      ∧ (s.confirm k o).haltedAtEntry = s.haltedAtEntry
      ∧ (s.confirm k o).stopReleased = s.stopReleased
      ∧ (s.confirm k o).tach = s.tach
      ∧ (s.confirm k o).sequence = s.sequence
      ∧ (s.confirm k o).readWindow = s.readWindow
      ∧ (s.confirm k o).pending = s.pending := by
  unfold State.confirm; simp
@[simp] theorem State.confirm_pins (s : State) (k : Fin 4) (o : GateOp) : (s.confirm k o).pins = s.pins := (State.confirm_frame s k o).1
@[simp] theorem State.confirm_runState (s : State) (k : Fin 4) (o : GateOp) : (s.confirm k o).runState = s.runState := (State.confirm_frame s k o).2.1
@[simp] theorem State.confirm_straps (s : State) (k : Fin 4) (o : GateOp) : (s.confirm k o).straps = s.straps := (State.confirm_frame s k o).2.2.1
@[simp] theorem State.confirm_config (s : State) (k : Fin 4) (o : GateOp) : (s.confirm k o).config = s.config := (State.confirm_frame s k o).2.2.2.1
@[simp] theorem State.confirm_loader (s : State) (k : Fin 4) (o : GateOp) : (s.confirm k o).loader = s.loader := (State.confirm_frame s k o).2.2.2.2.1
@[simp] theorem State.confirm_powerLost (s : State) (k : Fin 4) (o : GateOp) : (s.confirm k o).powerLost = s.powerLost := (State.confirm_frame s k o).2.2.2.2.2.1
@[simp] theorem State.confirm_haltedAtEntry (s : State) (k : Fin 4) (o : GateOp) : (s.confirm k o).haltedAtEntry = s.haltedAtEntry := (State.confirm_frame s k o).2.2.2.2.2.2.1
@[simp] theorem State.confirm_stopReleased (s : State) (k : Fin 4) (o : GateOp) : (s.confirm k o).stopReleased = s.stopReleased := (State.confirm_frame s k o).2.2.2.2.2.2.2.1
@[simp] theorem State.confirm_tach (s : State) (k : Fin 4) (o : GateOp) : (s.confirm k o).tach = s.tach := (State.confirm_frame s k o).2.2.2.2.2.2.2.2.1
@[simp] theorem State.confirm_sequence (s : State) (k : Fin 4) (o : GateOp) : (s.confirm k o).sequence = s.sequence := (State.confirm_frame s k o).2.2.2.2.2.2.2.2.2.1
@[simp] theorem State.confirm_readWindow (s : State) (k : Fin 4) (o : GateOp) : (s.confirm k o).readWindow = s.readWindow := (State.confirm_frame s k o).2.2.2.2.2.2.2.2.2.2.1
@[simp] theorem State.confirm_pending (s : State) (k : Fin 4) (o : GateOp) : (s.confirm k o).pending = s.pending := (State.confirm_frame s k o).2.2.2.2.2.2.2.2.2.2.2
@[simp] theorem State.confirm_cfg (s : State) (k : Fin 4) (o : GateOp) : (s.confirm k o).cfg = s.cfg := by simp only [State.cfg, State.confirm_config]

/-- State.joinEnded leaves these fields as they are. -/
theorem State.joinEnded_frame (s : State) :
    s.joinEnded.pins = s.pins
      ∧ s.joinEnded.straps = s.straps
      ∧ s.joinEnded.config = s.config
      ∧ s.joinEnded.loader = s.loader
      ∧ s.joinEnded.powerLost = s.powerLost
      ∧ s.joinEnded.haltedAtEntry = s.haltedAtEntry
      ∧ s.joinEnded.stopReleased = s.stopReleased
      ∧ s.joinEnded.conditions = s.conditions
      ∧ s.joinEnded.counters = s.counters
      ∧ s.joinEnded.tach = s.tach
      ∧ s.joinEnded.frontEnd = s.frontEnd
      ∧ s.joinEnded.scan = s.scan
      ∧ s.joinEnded.table = s.table
      ∧ s.joinEnded.blockage = s.blockage
      ∧ s.joinEnded.sequence = s.sequence
      ∧ s.joinEnded.readWindow = s.readWindow
      ∧ s.joinEnded.pockets = s.pockets
      ∧ s.joinEnded.line = s.line
      ∧ s.joinEnded.pending = s.pending := by
  unfold State.joinEnded
  try dsimp only
  repeat' split
  all_goals simp
@[simp] theorem State.joinEnded_pins (s : State) : s.joinEnded.pins = s.pins := (State.joinEnded_frame s).1
@[simp] theorem State.joinEnded_straps (s : State) : s.joinEnded.straps = s.straps := (State.joinEnded_frame s).2.1
@[simp] theorem State.joinEnded_config (s : State) : s.joinEnded.config = s.config := (State.joinEnded_frame s).2.2.1
@[simp] theorem State.joinEnded_loader (s : State) : s.joinEnded.loader = s.loader := (State.joinEnded_frame s).2.2.2.1
@[simp] theorem State.joinEnded_powerLost (s : State) : s.joinEnded.powerLost = s.powerLost := (State.joinEnded_frame s).2.2.2.2.1
@[simp] theorem State.joinEnded_haltedAtEntry (s : State) : s.joinEnded.haltedAtEntry = s.haltedAtEntry := (State.joinEnded_frame s).2.2.2.2.2.1
@[simp] theorem State.joinEnded_stopReleased (s : State) : s.joinEnded.stopReleased = s.stopReleased := (State.joinEnded_frame s).2.2.2.2.2.2.1
@[simp] theorem State.joinEnded_conditions (s : State) : s.joinEnded.conditions = s.conditions := (State.joinEnded_frame s).2.2.2.2.2.2.2.1
@[simp] theorem State.joinEnded_counters (s : State) : s.joinEnded.counters = s.counters := (State.joinEnded_frame s).2.2.2.2.2.2.2.2.1
@[simp] theorem State.joinEnded_tach (s : State) : s.joinEnded.tach = s.tach := (State.joinEnded_frame s).2.2.2.2.2.2.2.2.2.1
@[simp] theorem State.joinEnded_frontEnd (s : State) : s.joinEnded.frontEnd = s.frontEnd := (State.joinEnded_frame s).2.2.2.2.2.2.2.2.2.2.1
@[simp] theorem State.joinEnded_scan (s : State) : s.joinEnded.scan = s.scan := (State.joinEnded_frame s).2.2.2.2.2.2.2.2.2.2.2.1
@[simp] theorem State.joinEnded_table (s : State) : s.joinEnded.table = s.table := (State.joinEnded_frame s).2.2.2.2.2.2.2.2.2.2.2.2.1
@[simp] theorem State.joinEnded_blockage (s : State) : s.joinEnded.blockage = s.blockage := (State.joinEnded_frame s).2.2.2.2.2.2.2.2.2.2.2.2.2.1
@[simp] theorem State.joinEnded_sequence (s : State) : s.joinEnded.sequence = s.sequence := (State.joinEnded_frame s).2.2.2.2.2.2.2.2.2.2.2.2.2.2.1
@[simp] theorem State.joinEnded_readWindow (s : State) : s.joinEnded.readWindow = s.readWindow := (State.joinEnded_frame s).2.2.2.2.2.2.2.2.2.2.2.2.2.2.2.1
@[simp] theorem State.joinEnded_pockets (s : State) : s.joinEnded.pockets = s.pockets := (State.joinEnded_frame s).2.2.2.2.2.2.2.2.2.2.2.2.2.2.2.2.1
@[simp] theorem State.joinEnded_line (s : State) : s.joinEnded.line = s.line := (State.joinEnded_frame s).2.2.2.2.2.2.2.2.2.2.2.2.2.2.2.2.2.1
@[simp] theorem State.joinEnded_pending (s : State) : s.joinEnded.pending = s.pending := (State.joinEnded_frame s).2.2.2.2.2.2.2.2.2.2.2.2.2.2.2.2.2.2
@[simp] theorem State.joinEnded_cfg (s : State) : s.joinEnded.cfg = s.cfg := by simp only [State.cfg, State.joinEnded_config]

/-- State.releaseClaim leaves these fields as they are. -/
theorem State.releaseClaim_frame (s : State) (id : LetterId) (k : Fin 4) (r : ReleaseReason) :
    (s.releaseClaim id k r).pins = s.pins
      ∧ (s.releaseClaim id k r).runState = s.runState
      ∧ (s.releaseClaim id k r).straps = s.straps
      ∧ (s.releaseClaim id k r).config = s.config
      ∧ (s.releaseClaim id k r).loader = s.loader
      ∧ (s.releaseClaim id k r).powerLost = s.powerLost
      ∧ (s.releaseClaim id k r).haltedAtEntry = s.haltedAtEntry
      ∧ (s.releaseClaim id k r).stopReleased = s.stopReleased
      ∧ (s.releaseClaim id k r).tach = s.tach
      ∧ (s.releaseClaim id k r).frontEnd = s.frontEnd
      ∧ (s.releaseClaim id k r).scan = s.scan
      ∧ (s.releaseClaim id k r).blockage = s.blockage
      ∧ (s.releaseClaim id k r).sequence = s.sequence
      ∧ (s.releaseClaim id k r).readWindow = s.readWindow
      ∧ (s.releaseClaim id k r).pockets = s.pockets
      ∧ (s.releaseClaim id k r).pending = s.pending := by
  unfold State.releaseClaim
  try dsimp only
  repeat' split
  all_goals simp
@[simp] theorem State.releaseClaim_pins (s : State) (id : LetterId) (k : Fin 4) (r : ReleaseReason) : (s.releaseClaim id k r).pins = s.pins := (State.releaseClaim_frame s id k r).1
@[simp] theorem State.releaseClaim_runState (s : State) (id : LetterId) (k : Fin 4) (r : ReleaseReason) : (s.releaseClaim id k r).runState = s.runState := (State.releaseClaim_frame s id k r).2.1
@[simp] theorem State.releaseClaim_straps (s : State) (id : LetterId) (k : Fin 4) (r : ReleaseReason) : (s.releaseClaim id k r).straps = s.straps := (State.releaseClaim_frame s id k r).2.2.1
@[simp] theorem State.releaseClaim_config (s : State) (id : LetterId) (k : Fin 4) (r : ReleaseReason) : (s.releaseClaim id k r).config = s.config := (State.releaseClaim_frame s id k r).2.2.2.1
@[simp] theorem State.releaseClaim_loader (s : State) (id : LetterId) (k : Fin 4) (r : ReleaseReason) : (s.releaseClaim id k r).loader = s.loader := (State.releaseClaim_frame s id k r).2.2.2.2.1
@[simp] theorem State.releaseClaim_powerLost (s : State) (id : LetterId) (k : Fin 4) (r : ReleaseReason) : (s.releaseClaim id k r).powerLost = s.powerLost := (State.releaseClaim_frame s id k r).2.2.2.2.2.1
@[simp] theorem State.releaseClaim_haltedAtEntry (s : State) (id : LetterId) (k : Fin 4) (r : ReleaseReason) : (s.releaseClaim id k r).haltedAtEntry = s.haltedAtEntry := (State.releaseClaim_frame s id k r).2.2.2.2.2.2.1
@[simp] theorem State.releaseClaim_stopReleased (s : State) (id : LetterId) (k : Fin 4) (r : ReleaseReason) : (s.releaseClaim id k r).stopReleased = s.stopReleased := (State.releaseClaim_frame s id k r).2.2.2.2.2.2.2.1
@[simp] theorem State.releaseClaim_tach (s : State) (id : LetterId) (k : Fin 4) (r : ReleaseReason) : (s.releaseClaim id k r).tach = s.tach := (State.releaseClaim_frame s id k r).2.2.2.2.2.2.2.2.1
@[simp] theorem State.releaseClaim_frontEnd (s : State) (id : LetterId) (k : Fin 4) (r : ReleaseReason) : (s.releaseClaim id k r).frontEnd = s.frontEnd := (State.releaseClaim_frame s id k r).2.2.2.2.2.2.2.2.2.1
@[simp] theorem State.releaseClaim_scan (s : State) (id : LetterId) (k : Fin 4) (r : ReleaseReason) : (s.releaseClaim id k r).scan = s.scan := (State.releaseClaim_frame s id k r).2.2.2.2.2.2.2.2.2.2.1
@[simp] theorem State.releaseClaim_blockage (s : State) (id : LetterId) (k : Fin 4) (r : ReleaseReason) : (s.releaseClaim id k r).blockage = s.blockage := (State.releaseClaim_frame s id k r).2.2.2.2.2.2.2.2.2.2.2.1
@[simp] theorem State.releaseClaim_sequence (s : State) (id : LetterId) (k : Fin 4) (r : ReleaseReason) : (s.releaseClaim id k r).sequence = s.sequence := (State.releaseClaim_frame s id k r).2.2.2.2.2.2.2.2.2.2.2.2.1
@[simp] theorem State.releaseClaim_readWindow (s : State) (id : LetterId) (k : Fin 4) (r : ReleaseReason) : (s.releaseClaim id k r).readWindow = s.readWindow := (State.releaseClaim_frame s id k r).2.2.2.2.2.2.2.2.2.2.2.2.2.1
@[simp] theorem State.releaseClaim_pockets (s : State) (id : LetterId) (k : Fin 4) (r : ReleaseReason) : (s.releaseClaim id k r).pockets = s.pockets := (State.releaseClaim_frame s id k r).2.2.2.2.2.2.2.2.2.2.2.2.2.2.1
@[simp] theorem State.releaseClaim_pending (s : State) (id : LetterId) (k : Fin 4) (r : ReleaseReason) : (s.releaseClaim id k r).pending = s.pending := (State.releaseClaim_frame s id k r).2.2.2.2.2.2.2.2.2.2.2.2.2.2.2
@[simp] theorem State.releaseClaim_cfg (s : State) (id : LetterId) (k : Fin 4) (r : ReleaseReason) : (s.releaseClaim id k r).cfg = s.cfg := by simp only [State.cfg, State.releaseClaim_config]

/-- State.rejudge leaves these fields as they are. -/
theorem State.rejudge_frame (s : State) (id : LetterId) :
    (s.rejudge id).pins = s.pins
      ∧ (s.rejudge id).runState = s.runState
      ∧ (s.rejudge id).straps = s.straps
      ∧ (s.rejudge id).config = s.config
      ∧ (s.rejudge id).loader = s.loader
      ∧ (s.rejudge id).powerLost = s.powerLost
      ∧ (s.rejudge id).haltedAtEntry = s.haltedAtEntry
      ∧ (s.rejudge id).stopReleased = s.stopReleased
      ∧ (s.rejudge id).tach = s.tach
      ∧ (s.rejudge id).frontEnd = s.frontEnd
      ∧ (s.rejudge id).scan = s.scan
      ∧ (s.rejudge id).blockage = s.blockage
      ∧ (s.rejudge id).sequence = s.sequence
      ∧ (s.rejudge id).readWindow = s.readWindow
      ∧ (s.rejudge id).pending = s.pending := by
  unfold State.rejudge
  try dsimp only
  repeat' split
  all_goals simp
@[simp] theorem State.rejudge_pins (s : State) (id : LetterId) : (s.rejudge id).pins = s.pins := (State.rejudge_frame s id).1
@[simp] theorem State.rejudge_runState (s : State) (id : LetterId) : (s.rejudge id).runState = s.runState := (State.rejudge_frame s id).2.1
@[simp] theorem State.rejudge_straps (s : State) (id : LetterId) : (s.rejudge id).straps = s.straps := (State.rejudge_frame s id).2.2.1
@[simp] theorem State.rejudge_config (s : State) (id : LetterId) : (s.rejudge id).config = s.config := (State.rejudge_frame s id).2.2.2.1
@[simp] theorem State.rejudge_loader (s : State) (id : LetterId) : (s.rejudge id).loader = s.loader := (State.rejudge_frame s id).2.2.2.2.1
@[simp] theorem State.rejudge_powerLost (s : State) (id : LetterId) : (s.rejudge id).powerLost = s.powerLost := (State.rejudge_frame s id).2.2.2.2.2.1
@[simp] theorem State.rejudge_haltedAtEntry (s : State) (id : LetterId) : (s.rejudge id).haltedAtEntry = s.haltedAtEntry := (State.rejudge_frame s id).2.2.2.2.2.2.1
@[simp] theorem State.rejudge_stopReleased (s : State) (id : LetterId) : (s.rejudge id).stopReleased = s.stopReleased := (State.rejudge_frame s id).2.2.2.2.2.2.2.1
@[simp] theorem State.rejudge_tach (s : State) (id : LetterId) : (s.rejudge id).tach = s.tach := (State.rejudge_frame s id).2.2.2.2.2.2.2.2.1
@[simp] theorem State.rejudge_frontEnd (s : State) (id : LetterId) : (s.rejudge id).frontEnd = s.frontEnd := (State.rejudge_frame s id).2.2.2.2.2.2.2.2.2.1
@[simp] theorem State.rejudge_scan (s : State) (id : LetterId) : (s.rejudge id).scan = s.scan := (State.rejudge_frame s id).2.2.2.2.2.2.2.2.2.2.1
@[simp] theorem State.rejudge_blockage (s : State) (id : LetterId) : (s.rejudge id).blockage = s.blockage := (State.rejudge_frame s id).2.2.2.2.2.2.2.2.2.2.2.1
@[simp] theorem State.rejudge_sequence (s : State) (id : LetterId) : (s.rejudge id).sequence = s.sequence := (State.rejudge_frame s id).2.2.2.2.2.2.2.2.2.2.2.2.1
@[simp] theorem State.rejudge_readWindow (s : State) (id : LetterId) : (s.rejudge id).readWindow = s.readWindow := (State.rejudge_frame s id).2.2.2.2.2.2.2.2.2.2.2.2.2.1
@[simp] theorem State.rejudge_pending (s : State) (id : LetterId) : (s.rejudge id).pending = s.pending := (State.rejudge_frame s id).2.2.2.2.2.2.2.2.2.2.2.2.2.2
@[simp] theorem State.rejudge_cfg (s : State) (id : LetterId) : (s.rejudge id).cfg = s.cfg := by simp only [State.cfg, State.rejudge_config]

/-- State.applyRead leaves these fields as they are. -/
theorem State.applyRead_frame (s : State) (id : LetterId) (f : Identity → Identity) :
    (s.applyRead id f).pins = s.pins
      ∧ (s.applyRead id f).runState = s.runState
      ∧ (s.applyRead id f).straps = s.straps
      ∧ (s.applyRead id f).config = s.config
      ∧ (s.applyRead id f).loader = s.loader
      ∧ (s.applyRead id f).powerLost = s.powerLost
      ∧ (s.applyRead id f).haltedAtEntry = s.haltedAtEntry
      ∧ (s.applyRead id f).stopReleased = s.stopReleased
      ∧ (s.applyRead id f).tach = s.tach
      ∧ (s.applyRead id f).frontEnd = s.frontEnd
      ∧ (s.applyRead id f).scan = s.scan
      ∧ (s.applyRead id f).blockage = s.blockage
      ∧ (s.applyRead id f).sequence = s.sequence
      ∧ (s.applyRead id f).readWindow = s.readWindow
      ∧ (s.applyRead id f).pending = s.pending := by
  unfold State.applyRead
  try dsimp only
  repeat' split
  all_goals simp
@[simp] theorem State.applyRead_pins (s : State) (id : LetterId) (f : Identity → Identity) : (s.applyRead id f).pins = s.pins := (State.applyRead_frame s id f).1
@[simp] theorem State.applyRead_runState (s : State) (id : LetterId) (f : Identity → Identity) : (s.applyRead id f).runState = s.runState := (State.applyRead_frame s id f).2.1
@[simp] theorem State.applyRead_straps (s : State) (id : LetterId) (f : Identity → Identity) : (s.applyRead id f).straps = s.straps := (State.applyRead_frame s id f).2.2.1
@[simp] theorem State.applyRead_config (s : State) (id : LetterId) (f : Identity → Identity) : (s.applyRead id f).config = s.config := (State.applyRead_frame s id f).2.2.2.1
@[simp] theorem State.applyRead_loader (s : State) (id : LetterId) (f : Identity → Identity) : (s.applyRead id f).loader = s.loader := (State.applyRead_frame s id f).2.2.2.2.1
@[simp] theorem State.applyRead_powerLost (s : State) (id : LetterId) (f : Identity → Identity) : (s.applyRead id f).powerLost = s.powerLost := (State.applyRead_frame s id f).2.2.2.2.2.1
@[simp] theorem State.applyRead_haltedAtEntry (s : State) (id : LetterId) (f : Identity → Identity) : (s.applyRead id f).haltedAtEntry = s.haltedAtEntry := (State.applyRead_frame s id f).2.2.2.2.2.2.1
@[simp] theorem State.applyRead_stopReleased (s : State) (id : LetterId) (f : Identity → Identity) : (s.applyRead id f).stopReleased = s.stopReleased := (State.applyRead_frame s id f).2.2.2.2.2.2.2.1
@[simp] theorem State.applyRead_tach (s : State) (id : LetterId) (f : Identity → Identity) : (s.applyRead id f).tach = s.tach := (State.applyRead_frame s id f).2.2.2.2.2.2.2.2.1
@[simp] theorem State.applyRead_frontEnd (s : State) (id : LetterId) (f : Identity → Identity) : (s.applyRead id f).frontEnd = s.frontEnd := (State.applyRead_frame s id f).2.2.2.2.2.2.2.2.2.1
@[simp] theorem State.applyRead_scan (s : State) (id : LetterId) (f : Identity → Identity) : (s.applyRead id f).scan = s.scan := (State.applyRead_frame s id f).2.2.2.2.2.2.2.2.2.2.1
@[simp] theorem State.applyRead_blockage (s : State) (id : LetterId) (f : Identity → Identity) : (s.applyRead id f).blockage = s.blockage := (State.applyRead_frame s id f).2.2.2.2.2.2.2.2.2.2.2.1
@[simp] theorem State.applyRead_sequence (s : State) (id : LetterId) (f : Identity → Identity) : (s.applyRead id f).sequence = s.sequence := (State.applyRead_frame s id f).2.2.2.2.2.2.2.2.2.2.2.2.1
@[simp] theorem State.applyRead_readWindow (s : State) (id : LetterId) (f : Identity → Identity) : (s.applyRead id f).readWindow = s.readWindow := (State.applyRead_frame s id f).2.2.2.2.2.2.2.2.2.2.2.2.2.1
@[simp] theorem State.applyRead_pending (s : State) (id : LetterId) (f : Identity → Identity) : (s.applyRead id f).pending = s.pending := (State.applyRead_frame s id f).2.2.2.2.2.2.2.2.2.2.2.2.2.2
@[simp] theorem State.applyRead_cfg (s : State) (id : LetterId) (f : Identity → Identity) : (s.applyRead id f).cfg = s.cfg := by simp only [State.cfg, State.applyRead_config]

/-- State.ownRead leaves these fields as they are. -/
theorem State.ownRead_frame (s : State) (r : ReadRecord) :
    (s.ownRead r).pins = s.pins
      ∧ (s.ownRead r).runState = s.runState
      ∧ (s.ownRead r).straps = s.straps
      ∧ (s.ownRead r).config = s.config
      ∧ (s.ownRead r).loader = s.loader
      ∧ (s.ownRead r).powerLost = s.powerLost
      ∧ (s.ownRead r).haltedAtEntry = s.haltedAtEntry
      ∧ (s.ownRead r).stopReleased = s.stopReleased
      ∧ (s.ownRead r).tach = s.tach
      ∧ (s.ownRead r).frontEnd = s.frontEnd
      ∧ (s.ownRead r).scan = s.scan
      ∧ (s.ownRead r).blockage = s.blockage
      ∧ (s.ownRead r).sequence = s.sequence
      ∧ (s.ownRead r).pending = s.pending := by
  unfold State.ownRead
  try dsimp only
  repeat' split
  all_goals simp
@[simp] theorem State.ownRead_pins (s : State) (r : ReadRecord) : (s.ownRead r).pins = s.pins := (State.ownRead_frame s r).1
@[simp] theorem State.ownRead_runState (s : State) (r : ReadRecord) : (s.ownRead r).runState = s.runState := (State.ownRead_frame s r).2.1
@[simp] theorem State.ownRead_straps (s : State) (r : ReadRecord) : (s.ownRead r).straps = s.straps := (State.ownRead_frame s r).2.2.1
@[simp] theorem State.ownRead_config (s : State) (r : ReadRecord) : (s.ownRead r).config = s.config := (State.ownRead_frame s r).2.2.2.1
@[simp] theorem State.ownRead_loader (s : State) (r : ReadRecord) : (s.ownRead r).loader = s.loader := (State.ownRead_frame s r).2.2.2.2.1
@[simp] theorem State.ownRead_powerLost (s : State) (r : ReadRecord) : (s.ownRead r).powerLost = s.powerLost := (State.ownRead_frame s r).2.2.2.2.2.1
@[simp] theorem State.ownRead_haltedAtEntry (s : State) (r : ReadRecord) : (s.ownRead r).haltedAtEntry = s.haltedAtEntry := (State.ownRead_frame s r).2.2.2.2.2.2.1
@[simp] theorem State.ownRead_stopReleased (s : State) (r : ReadRecord) : (s.ownRead r).stopReleased = s.stopReleased := (State.ownRead_frame s r).2.2.2.2.2.2.2.1
@[simp] theorem State.ownRead_tach (s : State) (r : ReadRecord) : (s.ownRead r).tach = s.tach := (State.ownRead_frame s r).2.2.2.2.2.2.2.2.1
@[simp] theorem State.ownRead_frontEnd (s : State) (r : ReadRecord) : (s.ownRead r).frontEnd = s.frontEnd := (State.ownRead_frame s r).2.2.2.2.2.2.2.2.2.1
@[simp] theorem State.ownRead_scan (s : State) (r : ReadRecord) : (s.ownRead r).scan = s.scan := (State.ownRead_frame s r).2.2.2.2.2.2.2.2.2.2.1
@[simp] theorem State.ownRead_blockage (s : State) (r : ReadRecord) : (s.ownRead r).blockage = s.blockage := (State.ownRead_frame s r).2.2.2.2.2.2.2.2.2.2.2.1
@[simp] theorem State.ownRead_sequence (s : State) (r : ReadRecord) : (s.ownRead r).sequence = s.sequence := (State.ownRead_frame s r).2.2.2.2.2.2.2.2.2.2.2.2.1
@[simp] theorem State.ownRead_pending (s : State) (r : ReadRecord) : (s.ownRead r).pending = s.pending := (State.ownRead_frame s r).2.2.2.2.2.2.2.2.2.2.2.2.2
@[simp] theorem State.ownRead_cfg (s : State) (r : ReadRecord) : (s.ownRead r).cfg = s.cfg := by simp only [State.cfg, State.ownRead_config]

/-- State.closeWindow leaves these fields as they are. -/
theorem State.closeWindow_frame (s : State) :
    s.closeWindow.pins = s.pins
      ∧ s.closeWindow.runState = s.runState
      ∧ s.closeWindow.straps = s.straps
      ∧ s.closeWindow.config = s.config
      ∧ s.closeWindow.loader = s.loader
      ∧ s.closeWindow.powerLost = s.powerLost
      ∧ s.closeWindow.haltedAtEntry = s.haltedAtEntry
      ∧ s.closeWindow.stopReleased = s.stopReleased
      ∧ s.closeWindow.tach = s.tach
      ∧ s.closeWindow.blockage = s.blockage
      ∧ s.closeWindow.sequence = s.sequence
      ∧ s.closeWindow.pending = s.pending := by
  unfold State.closeWindow
  try dsimp only
  repeat' split
  all_goals simp
@[simp] theorem State.closeWindow_pins (s : State) : s.closeWindow.pins = s.pins := (State.closeWindow_frame s).1
@[simp] theorem State.closeWindow_runState (s : State) : s.closeWindow.runState = s.runState := (State.closeWindow_frame s).2.1
@[simp] theorem State.closeWindow_straps (s : State) : s.closeWindow.straps = s.straps := (State.closeWindow_frame s).2.2.1
@[simp] theorem State.closeWindow_config (s : State) : s.closeWindow.config = s.config := (State.closeWindow_frame s).2.2.2.1
@[simp] theorem State.closeWindow_loader (s : State) : s.closeWindow.loader = s.loader := (State.closeWindow_frame s).2.2.2.2.1
@[simp] theorem State.closeWindow_powerLost (s : State) : s.closeWindow.powerLost = s.powerLost := (State.closeWindow_frame s).2.2.2.2.2.1
@[simp] theorem State.closeWindow_haltedAtEntry (s : State) : s.closeWindow.haltedAtEntry = s.haltedAtEntry := (State.closeWindow_frame s).2.2.2.2.2.2.1
@[simp] theorem State.closeWindow_stopReleased (s : State) : s.closeWindow.stopReleased = s.stopReleased := (State.closeWindow_frame s).2.2.2.2.2.2.2.1
@[simp] theorem State.closeWindow_tach (s : State) : s.closeWindow.tach = s.tach := (State.closeWindow_frame s).2.2.2.2.2.2.2.2.1
@[simp] theorem State.closeWindow_blockage (s : State) : s.closeWindow.blockage = s.blockage := (State.closeWindow_frame s).2.2.2.2.2.2.2.2.2.1
@[simp] theorem State.closeWindow_sequence (s : State) : s.closeWindow.sequence = s.sequence := (State.closeWindow_frame s).2.2.2.2.2.2.2.2.2.2.1
@[simp] theorem State.closeWindow_pending (s : State) : s.closeWindow.pending = s.pending := (State.closeWindow_frame s).2.2.2.2.2.2.2.2.2.2.2
@[simp] theorem State.closeWindow_cfg (s : State) : s.closeWindow.cfg = s.cfg := by simp only [State.cfg, State.closeWindow_config]

/-- State.retire leaves these fields as they are. -/
theorem State.retire_frame (s : State) (e : Entry) :
    (s.retire e).pins = s.pins
      ∧ (s.retire e).runState = s.runState
      ∧ (s.retire e).straps = s.straps
      ∧ (s.retire e).config = s.config
      ∧ (s.retire e).loader = s.loader
      ∧ (s.retire e).powerLost = s.powerLost
      ∧ (s.retire e).haltedAtEntry = s.haltedAtEntry
      ∧ (s.retire e).stopReleased = s.stopReleased
      ∧ (s.retire e).tach = s.tach
      ∧ (s.retire e).sequence = s.sequence
      ∧ (s.retire e).readWindow = s.readWindow
      ∧ (s.retire e).pockets = s.pockets
      ∧ (s.retire e).pending = s.pending := by
  unfold State.retire
  try dsimp only
  repeat' split
  all_goals simp
@[simp] theorem State.retire_pins (s : State) (e : Entry) : (s.retire e).pins = s.pins := (State.retire_frame s e).1
@[simp] theorem State.retire_runState (s : State) (e : Entry) : (s.retire e).runState = s.runState := (State.retire_frame s e).2.1
@[simp] theorem State.retire_straps (s : State) (e : Entry) : (s.retire e).straps = s.straps := (State.retire_frame s e).2.2.1
@[simp] theorem State.retire_config (s : State) (e : Entry) : (s.retire e).config = s.config := (State.retire_frame s e).2.2.2.1
@[simp] theorem State.retire_loader (s : State) (e : Entry) : (s.retire e).loader = s.loader := (State.retire_frame s e).2.2.2.2.1
@[simp] theorem State.retire_powerLost (s : State) (e : Entry) : (s.retire e).powerLost = s.powerLost := (State.retire_frame s e).2.2.2.2.2.1
@[simp] theorem State.retire_haltedAtEntry (s : State) (e : Entry) : (s.retire e).haltedAtEntry = s.haltedAtEntry := (State.retire_frame s e).2.2.2.2.2.2.1
@[simp] theorem State.retire_stopReleased (s : State) (e : Entry) : (s.retire e).stopReleased = s.stopReleased := (State.retire_frame s e).2.2.2.2.2.2.2.1
@[simp] theorem State.retire_tach (s : State) (e : Entry) : (s.retire e).tach = s.tach := (State.retire_frame s e).2.2.2.2.2.2.2.2.1
@[simp] theorem State.retire_sequence (s : State) (e : Entry) : (s.retire e).sequence = s.sequence := (State.retire_frame s e).2.2.2.2.2.2.2.2.2.1
@[simp] theorem State.retire_readWindow (s : State) (e : Entry) : (s.retire e).readWindow = s.readWindow := (State.retire_frame s e).2.2.2.2.2.2.2.2.2.2.1
@[simp] theorem State.retire_pockets (s : State) (e : Entry) : (s.retire e).pockets = s.pockets := (State.retire_frame s e).2.2.2.2.2.2.2.2.2.2.2.1
@[simp] theorem State.retire_pending (s : State) (e : Entry) : (s.retire e).pending = s.pending := (State.retire_frame s e).2.2.2.2.2.2.2.2.2.2.2.2
@[simp] theorem State.retire_cfg (s : State) (e : Entry) : (s.retire e).cfg = s.cfg := by simp only [State.cfg, State.retire_config]

/-- State.retireIfDue leaves these fields as they are. -/
theorem State.retireIfDue_frame (s : State) (id : LetterId) :
    (s.retireIfDue id).pins = s.pins
      ∧ (s.retireIfDue id).runState = s.runState
      ∧ (s.retireIfDue id).straps = s.straps
      ∧ (s.retireIfDue id).config = s.config
      ∧ (s.retireIfDue id).loader = s.loader
      ∧ (s.retireIfDue id).powerLost = s.powerLost
      ∧ (s.retireIfDue id).haltedAtEntry = s.haltedAtEntry
      ∧ (s.retireIfDue id).stopReleased = s.stopReleased
      ∧ (s.retireIfDue id).tach = s.tach
      ∧ (s.retireIfDue id).sequence = s.sequence
      ∧ (s.retireIfDue id).readWindow = s.readWindow
      ∧ (s.retireIfDue id).pockets = s.pockets
      ∧ (s.retireIfDue id).pending = s.pending := by
  unfold State.retireIfDue
  try dsimp only
  repeat' split
  all_goals simp
@[simp] theorem State.retireIfDue_pins (s : State) (id : LetterId) : (s.retireIfDue id).pins = s.pins := (State.retireIfDue_frame s id).1
@[simp] theorem State.retireIfDue_runState (s : State) (id : LetterId) : (s.retireIfDue id).runState = s.runState := (State.retireIfDue_frame s id).2.1
@[simp] theorem State.retireIfDue_straps (s : State) (id : LetterId) : (s.retireIfDue id).straps = s.straps := (State.retireIfDue_frame s id).2.2.1
@[simp] theorem State.retireIfDue_config (s : State) (id : LetterId) : (s.retireIfDue id).config = s.config := (State.retireIfDue_frame s id).2.2.2.1
@[simp] theorem State.retireIfDue_loader (s : State) (id : LetterId) : (s.retireIfDue id).loader = s.loader := (State.retireIfDue_frame s id).2.2.2.2.1
@[simp] theorem State.retireIfDue_powerLost (s : State) (id : LetterId) : (s.retireIfDue id).powerLost = s.powerLost := (State.retireIfDue_frame s id).2.2.2.2.2.1
@[simp] theorem State.retireIfDue_haltedAtEntry (s : State) (id : LetterId) : (s.retireIfDue id).haltedAtEntry = s.haltedAtEntry := (State.retireIfDue_frame s id).2.2.2.2.2.2.1
@[simp] theorem State.retireIfDue_stopReleased (s : State) (id : LetterId) : (s.retireIfDue id).stopReleased = s.stopReleased := (State.retireIfDue_frame s id).2.2.2.2.2.2.2.1
@[simp] theorem State.retireIfDue_tach (s : State) (id : LetterId) : (s.retireIfDue id).tach = s.tach := (State.retireIfDue_frame s id).2.2.2.2.2.2.2.2.1
@[simp] theorem State.retireIfDue_sequence (s : State) (id : LetterId) : (s.retireIfDue id).sequence = s.sequence := (State.retireIfDue_frame s id).2.2.2.2.2.2.2.2.2.1
@[simp] theorem State.retireIfDue_readWindow (s : State) (id : LetterId) : (s.retireIfDue id).readWindow = s.readWindow := (State.retireIfDue_frame s id).2.2.2.2.2.2.2.2.2.2.1
@[simp] theorem State.retireIfDue_pockets (s : State) (id : LetterId) : (s.retireIfDue id).pockets = s.pockets := (State.retireIfDue_frame s id).2.2.2.2.2.2.2.2.2.2.2.1
@[simp] theorem State.retireIfDue_pending (s : State) (id : LetterId) : (s.retireIfDue id).pending = s.pending := (State.retireIfDue_frame s id).2.2.2.2.2.2.2.2.2.2.2.2
@[simp] theorem State.retireIfDue_cfg (s : State) (id : LetterId) : (s.retireIfDue id).cfg = s.cfg := by simp only [State.cfg, State.retireIfDue_config]

/-- State.expire leaves these fields as they are. -/
theorem State.expire_frame (s : State) (e : Entry) :
    (s.expire e).pins = s.pins
      ∧ (s.expire e).runState = s.runState
      ∧ (s.expire e).straps = s.straps
      ∧ (s.expire e).config = s.config
      ∧ (s.expire e).loader = s.loader
      ∧ (s.expire e).powerLost = s.powerLost
      ∧ (s.expire e).haltedAtEntry = s.haltedAtEntry
      ∧ (s.expire e).stopReleased = s.stopReleased
      ∧ (s.expire e).tach = s.tach
      ∧ (s.expire e).sequence = s.sequence
      ∧ (s.expire e).readWindow = s.readWindow
      ∧ (s.expire e).pockets = s.pockets
      ∧ (s.expire e).pending = s.pending := by
  unfold State.expire
  try dsimp only
  repeat' split
  all_goals simp
@[simp] theorem State.expire_pins (s : State) (e : Entry) : (s.expire e).pins = s.pins := (State.expire_frame s e).1
@[simp] theorem State.expire_runState (s : State) (e : Entry) : (s.expire e).runState = s.runState := (State.expire_frame s e).2.1
@[simp] theorem State.expire_straps (s : State) (e : Entry) : (s.expire e).straps = s.straps := (State.expire_frame s e).2.2.1
@[simp] theorem State.expire_config (s : State) (e : Entry) : (s.expire e).config = s.config := (State.expire_frame s e).2.2.2.1
@[simp] theorem State.expire_loader (s : State) (e : Entry) : (s.expire e).loader = s.loader := (State.expire_frame s e).2.2.2.2.1
@[simp] theorem State.expire_powerLost (s : State) (e : Entry) : (s.expire e).powerLost = s.powerLost := (State.expire_frame s e).2.2.2.2.2.1
@[simp] theorem State.expire_haltedAtEntry (s : State) (e : Entry) : (s.expire e).haltedAtEntry = s.haltedAtEntry := (State.expire_frame s e).2.2.2.2.2.2.1
@[simp] theorem State.expire_stopReleased (s : State) (e : Entry) : (s.expire e).stopReleased = s.stopReleased := (State.expire_frame s e).2.2.2.2.2.2.2.1
@[simp] theorem State.expire_tach (s : State) (e : Entry) : (s.expire e).tach = s.tach := (State.expire_frame s e).2.2.2.2.2.2.2.2.1
@[simp] theorem State.expire_sequence (s : State) (e : Entry) : (s.expire e).sequence = s.sequence := (State.expire_frame s e).2.2.2.2.2.2.2.2.2.1
@[simp] theorem State.expire_readWindow (s : State) (e : Entry) : (s.expire e).readWindow = s.readWindow := (State.expire_frame s e).2.2.2.2.2.2.2.2.2.2.1
@[simp] theorem State.expire_pockets (s : State) (e : Entry) : (s.expire e).pockets = s.pockets := (State.expire_frame s e).2.2.2.2.2.2.2.2.2.2.2.1
@[simp] theorem State.expire_pending (s : State) (e : Entry) : (s.expire e).pending = s.pending := (State.expire_frame s e).2.2.2.2.2.2.2.2.2.2.2.2
@[simp] theorem State.expire_cfg (s : State) (e : Entry) : (s.expire e).cfg = s.cfg := by simp only [State.cfg, State.expire_config]

/-- State.miss leaves these fields as they are. -/
theorem State.miss_frame (s : State) (k : Fin 4) (o : GateOp) :
    (s.miss k o).pins = s.pins
      ∧ (s.miss k o).runState = s.runState
      ∧ (s.miss k o).straps = s.straps
      ∧ (s.miss k o).config = s.config
      ∧ (s.miss k o).loader = s.loader
      ∧ (s.miss k o).powerLost = s.powerLost
      ∧ (s.miss k o).haltedAtEntry = s.haltedAtEntry
      ∧ (s.miss k o).stopReleased = s.stopReleased
      ∧ (s.miss k o).tach = s.tach
      ∧ (s.miss k o).sequence = s.sequence
      ∧ (s.miss k o).readWindow = s.readWindow
      ∧ (s.miss k o).pending = s.pending := by
  unfold State.miss
  try dsimp only
  repeat' split
  all_goals simp
@[simp] theorem State.miss_pins (s : State) (k : Fin 4) (o : GateOp) : (s.miss k o).pins = s.pins := (State.miss_frame s k o).1
@[simp] theorem State.miss_runState (s : State) (k : Fin 4) (o : GateOp) : (s.miss k o).runState = s.runState := (State.miss_frame s k o).2.1
@[simp] theorem State.miss_straps (s : State) (k : Fin 4) (o : GateOp) : (s.miss k o).straps = s.straps := (State.miss_frame s k o).2.2.1
@[simp] theorem State.miss_config (s : State) (k : Fin 4) (o : GateOp) : (s.miss k o).config = s.config := (State.miss_frame s k o).2.2.2.1
@[simp] theorem State.miss_loader (s : State) (k : Fin 4) (o : GateOp) : (s.miss k o).loader = s.loader := (State.miss_frame s k o).2.2.2.2.1
@[simp] theorem State.miss_powerLost (s : State) (k : Fin 4) (o : GateOp) : (s.miss k o).powerLost = s.powerLost := (State.miss_frame s k o).2.2.2.2.2.1
@[simp] theorem State.miss_haltedAtEntry (s : State) (k : Fin 4) (o : GateOp) : (s.miss k o).haltedAtEntry = s.haltedAtEntry := (State.miss_frame s k o).2.2.2.2.2.2.1
@[simp] theorem State.miss_stopReleased (s : State) (k : Fin 4) (o : GateOp) : (s.miss k o).stopReleased = s.stopReleased := (State.miss_frame s k o).2.2.2.2.2.2.2.1
@[simp] theorem State.miss_tach (s : State) (k : Fin 4) (o : GateOp) : (s.miss k o).tach = s.tach := (State.miss_frame s k o).2.2.2.2.2.2.2.2.1
@[simp] theorem State.miss_sequence (s : State) (k : Fin 4) (o : GateOp) : (s.miss k o).sequence = s.sequence := (State.miss_frame s k o).2.2.2.2.2.2.2.2.2.1
@[simp] theorem State.miss_readWindow (s : State) (k : Fin 4) (o : GateOp) : (s.miss k o).readWindow = s.readWindow := (State.miss_frame s k o).2.2.2.2.2.2.2.2.2.2.1
@[simp] theorem State.miss_pending (s : State) (k : Fin 4) (o : GateOp) : (s.miss k o).pending = s.pending := (State.miss_frame s k o).2.2.2.2.2.2.2.2.2.2.2
@[simp] theorem State.miss_cfg (s : State) (k : Fin 4) (o : GateOp) : (s.miss k o).cfg = s.cfg := by simp only [State.cfg, State.miss_config]

/-- State.enterJammed leaves these fields as they are. -/
theorem State.enterJammed_frame (s : State) (j : Option JamReason) :
    (s.enterJammed j).pins = s.pins
      ∧ (s.enterJammed j).straps = s.straps
      ∧ (s.enterJammed j).config = s.config
      ∧ (s.enterJammed j).loader = s.loader
      ∧ (s.enterJammed j).powerLost = s.powerLost
      ∧ (s.enterJammed j).haltedAtEntry = s.haltedAtEntry
      ∧ (s.enterJammed j).stopReleased = s.stopReleased
      ∧ (s.enterJammed j).counters = s.counters
      ∧ (s.enterJammed j).tach = s.tach
      ∧ (s.enterJammed j).sequence = s.sequence
      ∧ (s.enterJammed j).readWindow = s.readWindow
      ∧ (s.enterJammed j).pending = s.pending := by
  unfold State.enterJammed
  try dsimp only
  repeat' split
  all_goals simp
@[simp] theorem State.enterJammed_pins (s : State) (j : Option JamReason) : (s.enterJammed j).pins = s.pins := (State.enterJammed_frame s j).1
@[simp] theorem State.enterJammed_straps (s : State) (j : Option JamReason) : (s.enterJammed j).straps = s.straps := (State.enterJammed_frame s j).2.1
@[simp] theorem State.enterJammed_config (s : State) (j : Option JamReason) : (s.enterJammed j).config = s.config := (State.enterJammed_frame s j).2.2.1
@[simp] theorem State.enterJammed_loader (s : State) (j : Option JamReason) : (s.enterJammed j).loader = s.loader := (State.enterJammed_frame s j).2.2.2.1
@[simp] theorem State.enterJammed_powerLost (s : State) (j : Option JamReason) : (s.enterJammed j).powerLost = s.powerLost := (State.enterJammed_frame s j).2.2.2.2.1
@[simp] theorem State.enterJammed_haltedAtEntry (s : State) (j : Option JamReason) : (s.enterJammed j).haltedAtEntry = s.haltedAtEntry := (State.enterJammed_frame s j).2.2.2.2.2.1
@[simp] theorem State.enterJammed_stopReleased (s : State) (j : Option JamReason) : (s.enterJammed j).stopReleased = s.stopReleased := (State.enterJammed_frame s j).2.2.2.2.2.2.1
@[simp] theorem State.enterJammed_counters (s : State) (j : Option JamReason) : (s.enterJammed j).counters = s.counters := (State.enterJammed_frame s j).2.2.2.2.2.2.2.1
@[simp] theorem State.enterJammed_tach (s : State) (j : Option JamReason) : (s.enterJammed j).tach = s.tach := (State.enterJammed_frame s j).2.2.2.2.2.2.2.2.1
@[simp] theorem State.enterJammed_sequence (s : State) (j : Option JamReason) : (s.enterJammed j).sequence = s.sequence := (State.enterJammed_frame s j).2.2.2.2.2.2.2.2.2.1
@[simp] theorem State.enterJammed_readWindow (s : State) (j : Option JamReason) : (s.enterJammed j).readWindow = s.readWindow := (State.enterJammed_frame s j).2.2.2.2.2.2.2.2.2.2.1
@[simp] theorem State.enterJammed_pending (s : State) (j : Option JamReason) : (s.enterJammed j).pending = s.pending := (State.enterJammed_frame s j).2.2.2.2.2.2.2.2.2.2.2
@[simp] theorem State.enterJammed_cfg (s : State) (j : Option JamReason) : (s.enterJammed j).cfg = s.cfg := by simp only [State.cfg, State.enterJammed_config]

/-- State.enterJoining leaves these fields as they are. -/
theorem State.enterJoining_frame (s : State) :
    s.enterJoining.pins = s.pins
      ∧ s.enterJoining.straps = s.straps
      ∧ s.enterJoining.config = s.config
      ∧ s.enterJoining.loader = s.loader
      ∧ s.enterJoining.powerLost = s.powerLost
      ∧ s.enterJoining.haltedAtEntry = s.haltedAtEntry
      ∧ s.enterJoining.stopReleased = s.stopReleased
      ∧ s.enterJoining.counters = s.counters
      ∧ s.enterJoining.tach = s.tach
      ∧ s.enterJoining.scan = s.scan
      ∧ s.enterJoining.table = s.table
      ∧ s.enterJoining.blockage = s.blockage
      ∧ s.enterJoining.sequence = s.sequence
      ∧ s.enterJoining.readWindow = s.readWindow
      ∧ s.enterJoining.pending = s.pending := by
  unfold State.enterJoining; simp
@[simp] theorem State.enterJoining_pins (s : State) : s.enterJoining.pins = s.pins := (State.enterJoining_frame s).1
@[simp] theorem State.enterJoining_straps (s : State) : s.enterJoining.straps = s.straps := (State.enterJoining_frame s).2.1
@[simp] theorem State.enterJoining_config (s : State) : s.enterJoining.config = s.config := (State.enterJoining_frame s).2.2.1
@[simp] theorem State.enterJoining_loader (s : State) : s.enterJoining.loader = s.loader := (State.enterJoining_frame s).2.2.2.1
@[simp] theorem State.enterJoining_powerLost (s : State) : s.enterJoining.powerLost = s.powerLost := (State.enterJoining_frame s).2.2.2.2.1
@[simp] theorem State.enterJoining_haltedAtEntry (s : State) : s.enterJoining.haltedAtEntry = s.haltedAtEntry := (State.enterJoining_frame s).2.2.2.2.2.1
@[simp] theorem State.enterJoining_stopReleased (s : State) : s.enterJoining.stopReleased = s.stopReleased := (State.enterJoining_frame s).2.2.2.2.2.2.1
@[simp] theorem State.enterJoining_counters (s : State) : s.enterJoining.counters = s.counters := (State.enterJoining_frame s).2.2.2.2.2.2.2.1
@[simp] theorem State.enterJoining_tach (s : State) : s.enterJoining.tach = s.tach := (State.enterJoining_frame s).2.2.2.2.2.2.2.2.1
@[simp] theorem State.enterJoining_scan (s : State) : s.enterJoining.scan = s.scan := (State.enterJoining_frame s).2.2.2.2.2.2.2.2.2.1
@[simp] theorem State.enterJoining_table (s : State) : s.enterJoining.table = s.table := (State.enterJoining_frame s).2.2.2.2.2.2.2.2.2.2.1
@[simp] theorem State.enterJoining_blockage (s : State) : s.enterJoining.blockage = s.blockage := (State.enterJoining_frame s).2.2.2.2.2.2.2.2.2.2.2.1
@[simp] theorem State.enterJoining_sequence (s : State) : s.enterJoining.sequence = s.sequence := (State.enterJoining_frame s).2.2.2.2.2.2.2.2.2.2.2.2.1
@[simp] theorem State.enterJoining_readWindow (s : State) : s.enterJoining.readWindow = s.readWindow := (State.enterJoining_frame s).2.2.2.2.2.2.2.2.2.2.2.2.2.1
@[simp] theorem State.enterJoining_pending (s : State) : s.enterJoining.pending = s.pending := (State.enterJoining_frame s).2.2.2.2.2.2.2.2.2.2.2.2.2.2
@[simp] theorem State.enterJoining_cfg (s : State) : s.enterJoining.cfg = s.cfg := by simp only [State.cfg, State.enterJoining_config]

/-- State.failAttempt leaves these fields as they are. -/
theorem State.failAttempt_frame (s : State) :
    s.failAttempt.pins = s.pins
      ∧ s.failAttempt.straps = s.straps
      ∧ s.failAttempt.config = s.config
      ∧ s.failAttempt.loader = s.loader
      ∧ s.failAttempt.powerLost = s.powerLost
      ∧ s.failAttempt.haltedAtEntry = s.haltedAtEntry
      ∧ s.failAttempt.stopReleased = s.stopReleased
      ∧ s.failAttempt.counters = s.counters
      ∧ s.failAttempt.tach = s.tach
      ∧ s.failAttempt.frontEnd = s.frontEnd
      ∧ s.failAttempt.scan = s.scan
      ∧ s.failAttempt.table = s.table
      ∧ s.failAttempt.blockage = s.blockage
      ∧ s.failAttempt.sequence = s.sequence
      ∧ s.failAttempt.readWindow = s.readWindow
      ∧ s.failAttempt.pockets = s.pockets
      ∧ s.failAttempt.pending = s.pending := by
  unfold State.failAttempt
  try dsimp only
  repeat' split
  all_goals simp
@[simp] theorem State.failAttempt_pins (s : State) : s.failAttempt.pins = s.pins := (State.failAttempt_frame s).1
@[simp] theorem State.failAttempt_straps (s : State) : s.failAttempt.straps = s.straps := (State.failAttempt_frame s).2.1
@[simp] theorem State.failAttempt_config (s : State) : s.failAttempt.config = s.config := (State.failAttempt_frame s).2.2.1
@[simp] theorem State.failAttempt_loader (s : State) : s.failAttempt.loader = s.loader := (State.failAttempt_frame s).2.2.2.1
@[simp] theorem State.failAttempt_powerLost (s : State) : s.failAttempt.powerLost = s.powerLost := (State.failAttempt_frame s).2.2.2.2.1
@[simp] theorem State.failAttempt_haltedAtEntry (s : State) : s.failAttempt.haltedAtEntry = s.haltedAtEntry := (State.failAttempt_frame s).2.2.2.2.2.1
@[simp] theorem State.failAttempt_stopReleased (s : State) : s.failAttempt.stopReleased = s.stopReleased := (State.failAttempt_frame s).2.2.2.2.2.2.1
@[simp] theorem State.failAttempt_counters (s : State) : s.failAttempt.counters = s.counters := (State.failAttempt_frame s).2.2.2.2.2.2.2.1
@[simp] theorem State.failAttempt_tach (s : State) : s.failAttempt.tach = s.tach := (State.failAttempt_frame s).2.2.2.2.2.2.2.2.1
@[simp] theorem State.failAttempt_frontEnd (s : State) : s.failAttempt.frontEnd = s.frontEnd := (State.failAttempt_frame s).2.2.2.2.2.2.2.2.2.1
@[simp] theorem State.failAttempt_scan (s : State) : s.failAttempt.scan = s.scan := (State.failAttempt_frame s).2.2.2.2.2.2.2.2.2.2.1
@[simp] theorem State.failAttempt_table (s : State) : s.failAttempt.table = s.table := (State.failAttempt_frame s).2.2.2.2.2.2.2.2.2.2.2.1
@[simp] theorem State.failAttempt_blockage (s : State) : s.failAttempt.blockage = s.blockage := (State.failAttempt_frame s).2.2.2.2.2.2.2.2.2.2.2.2.1
@[simp] theorem State.failAttempt_sequence (s : State) : s.failAttempt.sequence = s.sequence := (State.failAttempt_frame s).2.2.2.2.2.2.2.2.2.2.2.2.2.1
@[simp] theorem State.failAttempt_readWindow (s : State) : s.failAttempt.readWindow = s.readWindow := (State.failAttempt_frame s).2.2.2.2.2.2.2.2.2.2.2.2.2.2.1
@[simp] theorem State.failAttempt_pockets (s : State) : s.failAttempt.pockets = s.pockets := (State.failAttempt_frame s).2.2.2.2.2.2.2.2.2.2.2.2.2.2.2.1
@[simp] theorem State.failAttempt_pending (s : State) : s.failAttempt.pending = s.pending := (State.failAttempt_frame s).2.2.2.2.2.2.2.2.2.2.2.2.2.2.2.2
@[simp] theorem State.failAttempt_cfg (s : State) : s.failAttempt.cfg = s.cfg := by simp only [State.cfg, State.failAttempt_config]

/-- State.ackAttempt leaves these fields as they are. -/
theorem State.ackAttempt_frame (s : State) :
    s.ackAttempt.pins = s.pins
      ∧ s.ackAttempt.straps = s.straps
      ∧ s.ackAttempt.config = s.config
      ∧ s.ackAttempt.loader = s.loader
      ∧ s.ackAttempt.powerLost = s.powerLost
      ∧ s.ackAttempt.haltedAtEntry = s.haltedAtEntry
      ∧ s.ackAttempt.stopReleased = s.stopReleased
      ∧ s.ackAttempt.counters = s.counters
      ∧ s.ackAttempt.tach = s.tach
      ∧ s.ackAttempt.frontEnd = s.frontEnd
      ∧ s.ackAttempt.scan = s.scan
      ∧ s.ackAttempt.table = s.table
      ∧ s.ackAttempt.blockage = s.blockage
      ∧ s.ackAttempt.sequence = s.sequence
      ∧ s.ackAttempt.readWindow = s.readWindow
      ∧ s.ackAttempt.pockets = s.pockets
      ∧ s.ackAttempt.pending = s.pending := by
  unfold State.ackAttempt
  try dsimp only
  repeat' split
  all_goals simp
@[simp] theorem State.ackAttempt_pins (s : State) : s.ackAttempt.pins = s.pins := (State.ackAttempt_frame s).1
@[simp] theorem State.ackAttempt_straps (s : State) : s.ackAttempt.straps = s.straps := (State.ackAttempt_frame s).2.1
@[simp] theorem State.ackAttempt_config (s : State) : s.ackAttempt.config = s.config := (State.ackAttempt_frame s).2.2.1
@[simp] theorem State.ackAttempt_loader (s : State) : s.ackAttempt.loader = s.loader := (State.ackAttempt_frame s).2.2.2.1
@[simp] theorem State.ackAttempt_powerLost (s : State) : s.ackAttempt.powerLost = s.powerLost := (State.ackAttempt_frame s).2.2.2.2.1
@[simp] theorem State.ackAttempt_haltedAtEntry (s : State) : s.ackAttempt.haltedAtEntry = s.haltedAtEntry := (State.ackAttempt_frame s).2.2.2.2.2.1
@[simp] theorem State.ackAttempt_stopReleased (s : State) : s.ackAttempt.stopReleased = s.stopReleased := (State.ackAttempt_frame s).2.2.2.2.2.2.1
@[simp] theorem State.ackAttempt_counters (s : State) : s.ackAttempt.counters = s.counters := (State.ackAttempt_frame s).2.2.2.2.2.2.2.1
@[simp] theorem State.ackAttempt_tach (s : State) : s.ackAttempt.tach = s.tach := (State.ackAttempt_frame s).2.2.2.2.2.2.2.2.1
@[simp] theorem State.ackAttempt_frontEnd (s : State) : s.ackAttempt.frontEnd = s.frontEnd := (State.ackAttempt_frame s).2.2.2.2.2.2.2.2.2.1
@[simp] theorem State.ackAttempt_scan (s : State) : s.ackAttempt.scan = s.scan := (State.ackAttempt_frame s).2.2.2.2.2.2.2.2.2.2.1
@[simp] theorem State.ackAttempt_table (s : State) : s.ackAttempt.table = s.table := (State.ackAttempt_frame s).2.2.2.2.2.2.2.2.2.2.2.1
@[simp] theorem State.ackAttempt_blockage (s : State) : s.ackAttempt.blockage = s.blockage := (State.ackAttempt_frame s).2.2.2.2.2.2.2.2.2.2.2.2.1
@[simp] theorem State.ackAttempt_sequence (s : State) : s.ackAttempt.sequence = s.sequence := (State.ackAttempt_frame s).2.2.2.2.2.2.2.2.2.2.2.2.2.1
@[simp] theorem State.ackAttempt_readWindow (s : State) : s.ackAttempt.readWindow = s.readWindow := (State.ackAttempt_frame s).2.2.2.2.2.2.2.2.2.2.2.2.2.2.1
@[simp] theorem State.ackAttempt_pockets (s : State) : s.ackAttempt.pockets = s.pockets := (State.ackAttempt_frame s).2.2.2.2.2.2.2.2.2.2.2.2.2.2.2.1
@[simp] theorem State.ackAttempt_pending (s : State) : s.ackAttempt.pending = s.pending := (State.ackAttempt_frame s).2.2.2.2.2.2.2.2.2.2.2.2.2.2.2.2
@[simp] theorem State.ackAttempt_cfg (s : State) : s.ackAttempt.cfg = s.cfg := by simp only [State.cfg, State.ackAttempt_config]

/-- State.loseArbitration leaves these fields as they are. -/
theorem State.loseArbitration_frame (s : State) :
    s.loseArbitration.pins = s.pins
      ∧ s.loseArbitration.runState = s.runState
      ∧ s.loseArbitration.straps = s.straps
      ∧ s.loseArbitration.config = s.config
      ∧ s.loseArbitration.loader = s.loader
      ∧ s.loseArbitration.powerLost = s.powerLost
      ∧ s.loseArbitration.haltedAtEntry = s.haltedAtEntry
      ∧ s.loseArbitration.stopReleased = s.stopReleased
      ∧ s.loseArbitration.counters = s.counters
      ∧ s.loseArbitration.tach = s.tach
      ∧ s.loseArbitration.frontEnd = s.frontEnd
      ∧ s.loseArbitration.scan = s.scan
      ∧ s.loseArbitration.table = s.table
      ∧ s.loseArbitration.blockage = s.blockage
      ∧ s.loseArbitration.sequence = s.sequence
      ∧ s.loseArbitration.readWindow = s.readWindow
      ∧ s.loseArbitration.pockets = s.pockets
      ∧ s.loseArbitration.pending = s.pending := by
  unfold State.loseArbitration
  try dsimp only
  repeat' split
  all_goals simp
@[simp] theorem State.loseArbitration_pins (s : State) : s.loseArbitration.pins = s.pins := (State.loseArbitration_frame s).1
@[simp] theorem State.loseArbitration_runState (s : State) : s.loseArbitration.runState = s.runState := (State.loseArbitration_frame s).2.1
@[simp] theorem State.loseArbitration_straps (s : State) : s.loseArbitration.straps = s.straps := (State.loseArbitration_frame s).2.2.1
@[simp] theorem State.loseArbitration_config (s : State) : s.loseArbitration.config = s.config := (State.loseArbitration_frame s).2.2.2.1
@[simp] theorem State.loseArbitration_loader (s : State) : s.loseArbitration.loader = s.loader := (State.loseArbitration_frame s).2.2.2.2.1
@[simp] theorem State.loseArbitration_powerLost (s : State) : s.loseArbitration.powerLost = s.powerLost := (State.loseArbitration_frame s).2.2.2.2.2.1
@[simp] theorem State.loseArbitration_haltedAtEntry (s : State) : s.loseArbitration.haltedAtEntry = s.haltedAtEntry := (State.loseArbitration_frame s).2.2.2.2.2.2.1
@[simp] theorem State.loseArbitration_stopReleased (s : State) : s.loseArbitration.stopReleased = s.stopReleased := (State.loseArbitration_frame s).2.2.2.2.2.2.2.1
@[simp] theorem State.loseArbitration_counters (s : State) : s.loseArbitration.counters = s.counters := (State.loseArbitration_frame s).2.2.2.2.2.2.2.2.1
@[simp] theorem State.loseArbitration_tach (s : State) : s.loseArbitration.tach = s.tach := (State.loseArbitration_frame s).2.2.2.2.2.2.2.2.2.1
@[simp] theorem State.loseArbitration_frontEnd (s : State) : s.loseArbitration.frontEnd = s.frontEnd := (State.loseArbitration_frame s).2.2.2.2.2.2.2.2.2.2.1
@[simp] theorem State.loseArbitration_scan (s : State) : s.loseArbitration.scan = s.scan := (State.loseArbitration_frame s).2.2.2.2.2.2.2.2.2.2.2.1
@[simp] theorem State.loseArbitration_table (s : State) : s.loseArbitration.table = s.table := (State.loseArbitration_frame s).2.2.2.2.2.2.2.2.2.2.2.2.1
@[simp] theorem State.loseArbitration_blockage (s : State) : s.loseArbitration.blockage = s.blockage := (State.loseArbitration_frame s).2.2.2.2.2.2.2.2.2.2.2.2.2.1
@[simp] theorem State.loseArbitration_sequence (s : State) : s.loseArbitration.sequence = s.sequence := (State.loseArbitration_frame s).2.2.2.2.2.2.2.2.2.2.2.2.2.2.1
@[simp] theorem State.loseArbitration_readWindow (s : State) : s.loseArbitration.readWindow = s.readWindow := (State.loseArbitration_frame s).2.2.2.2.2.2.2.2.2.2.2.2.2.2.2.1
@[simp] theorem State.loseArbitration_pockets (s : State) : s.loseArbitration.pockets = s.pockets := (State.loseArbitration_frame s).2.2.2.2.2.2.2.2.2.2.2.2.2.2.2.2.1
@[simp] theorem State.loseArbitration_pending (s : State) : s.loseArbitration.pending = s.pending := (State.loseArbitration_frame s).2.2.2.2.2.2.2.2.2.2.2.2.2.2.2.2.2
@[simp] theorem State.loseArbitration_cfg (s : State) : s.loseArbitration.cfg = s.cfg := by simp only [State.cfg, State.loseArbitration_config]

/-- State.swapCancel leaves these fields as they are. -/
theorem State.swapCancel_frame (s : State) (k : Fin 4) (o : GateOp) :
    (s.swapCancel k o).pins = s.pins
      ∧ (s.swapCancel k o).runState = s.runState
      ∧ (s.swapCancel k o).straps = s.straps
      ∧ (s.swapCancel k o).config = s.config
      ∧ (s.swapCancel k o).loader = s.loader
      ∧ (s.swapCancel k o).powerLost = s.powerLost
      ∧ (s.swapCancel k o).haltedAtEntry = s.haltedAtEntry
      ∧ (s.swapCancel k o).stopReleased = s.stopReleased
      ∧ (s.swapCancel k o).tach = s.tach
      ∧ (s.swapCancel k o).frontEnd = s.frontEnd
      ∧ (s.swapCancel k o).scan = s.scan
      ∧ (s.swapCancel k o).blockage = s.blockage
      ∧ (s.swapCancel k o).sequence = s.sequence
      ∧ (s.swapCancel k o).readWindow = s.readWindow
      ∧ (s.swapCancel k o).pending = s.pending := by
  unfold State.swapCancel
  try dsimp only
  repeat' split
  all_goals simp
@[simp] theorem State.swapCancel_pins (s : State) (k : Fin 4) (o : GateOp) : (s.swapCancel k o).pins = s.pins := (State.swapCancel_frame s k o).1
@[simp] theorem State.swapCancel_runState (s : State) (k : Fin 4) (o : GateOp) : (s.swapCancel k o).runState = s.runState := (State.swapCancel_frame s k o).2.1
@[simp] theorem State.swapCancel_straps (s : State) (k : Fin 4) (o : GateOp) : (s.swapCancel k o).straps = s.straps := (State.swapCancel_frame s k o).2.2.1
@[simp] theorem State.swapCancel_config (s : State) (k : Fin 4) (o : GateOp) : (s.swapCancel k o).config = s.config := (State.swapCancel_frame s k o).2.2.2.1
@[simp] theorem State.swapCancel_loader (s : State) (k : Fin 4) (o : GateOp) : (s.swapCancel k o).loader = s.loader := (State.swapCancel_frame s k o).2.2.2.2.1
@[simp] theorem State.swapCancel_powerLost (s : State) (k : Fin 4) (o : GateOp) : (s.swapCancel k o).powerLost = s.powerLost := (State.swapCancel_frame s k o).2.2.2.2.2.1
@[simp] theorem State.swapCancel_haltedAtEntry (s : State) (k : Fin 4) (o : GateOp) : (s.swapCancel k o).haltedAtEntry = s.haltedAtEntry := (State.swapCancel_frame s k o).2.2.2.2.2.2.1
@[simp] theorem State.swapCancel_stopReleased (s : State) (k : Fin 4) (o : GateOp) : (s.swapCancel k o).stopReleased = s.stopReleased := (State.swapCancel_frame s k o).2.2.2.2.2.2.2.1
@[simp] theorem State.swapCancel_tach (s : State) (k : Fin 4) (o : GateOp) : (s.swapCancel k o).tach = s.tach := (State.swapCancel_frame s k o).2.2.2.2.2.2.2.2.1
@[simp] theorem State.swapCancel_frontEnd (s : State) (k : Fin 4) (o : GateOp) : (s.swapCancel k o).frontEnd = s.frontEnd := (State.swapCancel_frame s k o).2.2.2.2.2.2.2.2.2.1
@[simp] theorem State.swapCancel_scan (s : State) (k : Fin 4) (o : GateOp) : (s.swapCancel k o).scan = s.scan := (State.swapCancel_frame s k o).2.2.2.2.2.2.2.2.2.2.1
@[simp] theorem State.swapCancel_blockage (s : State) (k : Fin 4) (o : GateOp) : (s.swapCancel k o).blockage = s.blockage := (State.swapCancel_frame s k o).2.2.2.2.2.2.2.2.2.2.2.1
@[simp] theorem State.swapCancel_sequence (s : State) (k : Fin 4) (o : GateOp) : (s.swapCancel k o).sequence = s.sequence := (State.swapCancel_frame s k o).2.2.2.2.2.2.2.2.2.2.2.2.1
@[simp] theorem State.swapCancel_readWindow (s : State) (k : Fin 4) (o : GateOp) : (s.swapCancel k o).readWindow = s.readWindow := (State.swapCancel_frame s k o).2.2.2.2.2.2.2.2.2.2.2.2.2.1
@[simp] theorem State.swapCancel_pending (s : State) (k : Fin 4) (o : GateOp) : (s.swapCancel k o).pending = s.pending := (State.swapCancel_frame s k o).2.2.2.2.2.2.2.2.2.2.2.2.2.2
@[simp] theorem State.swapCancel_cfg (s : State) (k : Fin 4) (o : GateOp) : (s.swapCancel k o).cfg = s.cfg := by simp only [State.cfg, State.swapCancel_config]

/-- State.setClosePoint leaves these fields as they are. -/
theorem State.setClosePoint_frame (s : State) (id : LetterId) :
    (s.setClosePoint id).pins = s.pins
      ∧ (s.setClosePoint id).runState = s.runState
      ∧ (s.setClosePoint id).straps = s.straps
      ∧ (s.setClosePoint id).config = s.config
      ∧ (s.setClosePoint id).loader = s.loader
      ∧ (s.setClosePoint id).powerLost = s.powerLost
      ∧ (s.setClosePoint id).haltedAtEntry = s.haltedAtEntry
      ∧ (s.setClosePoint id).stopReleased = s.stopReleased
      ∧ (s.setClosePoint id).tach = s.tach
      ∧ (s.setClosePoint id).blockage = s.blockage
      ∧ (s.setClosePoint id).sequence = s.sequence
      ∧ (s.setClosePoint id).pending = s.pending := by
  unfold State.setClosePoint
  try dsimp only
  repeat' split
  all_goals simp
@[simp] theorem State.setClosePoint_pins (s : State) (id : LetterId) : (s.setClosePoint id).pins = s.pins := (State.setClosePoint_frame s id).1
@[simp] theorem State.setClosePoint_runState (s : State) (id : LetterId) : (s.setClosePoint id).runState = s.runState := (State.setClosePoint_frame s id).2.1
@[simp] theorem State.setClosePoint_straps (s : State) (id : LetterId) : (s.setClosePoint id).straps = s.straps := (State.setClosePoint_frame s id).2.2.1
@[simp] theorem State.setClosePoint_config (s : State) (id : LetterId) : (s.setClosePoint id).config = s.config := (State.setClosePoint_frame s id).2.2.2.1
@[simp] theorem State.setClosePoint_loader (s : State) (id : LetterId) : (s.setClosePoint id).loader = s.loader := (State.setClosePoint_frame s id).2.2.2.2.1
@[simp] theorem State.setClosePoint_powerLost (s : State) (id : LetterId) : (s.setClosePoint id).powerLost = s.powerLost := (State.setClosePoint_frame s id).2.2.2.2.2.1
@[simp] theorem State.setClosePoint_haltedAtEntry (s : State) (id : LetterId) : (s.setClosePoint id).haltedAtEntry = s.haltedAtEntry := (State.setClosePoint_frame s id).2.2.2.2.2.2.1
@[simp] theorem State.setClosePoint_stopReleased (s : State) (id : LetterId) : (s.setClosePoint id).stopReleased = s.stopReleased := (State.setClosePoint_frame s id).2.2.2.2.2.2.2.1
@[simp] theorem State.setClosePoint_tach (s : State) (id : LetterId) : (s.setClosePoint id).tach = s.tach := (State.setClosePoint_frame s id).2.2.2.2.2.2.2.2.1
@[simp] theorem State.setClosePoint_blockage (s : State) (id : LetterId) : (s.setClosePoint id).blockage = s.blockage := (State.setClosePoint_frame s id).2.2.2.2.2.2.2.2.2.1
@[simp] theorem State.setClosePoint_sequence (s : State) (id : LetterId) : (s.setClosePoint id).sequence = s.sequence := (State.setClosePoint_frame s id).2.2.2.2.2.2.2.2.2.2.1
@[simp] theorem State.setClosePoint_pending (s : State) (id : LetterId) : (s.setClosePoint id).pending = s.pending := (State.setClosePoint_frame s id).2.2.2.2.2.2.2.2.2.2.2
@[simp] theorem State.setClosePoint_cfg (s : State) (id : LetterId) : (s.setClosePoint id).cfg = s.cfg := by simp only [State.cfg, State.setClosePoint_config]

/-- State.queueSight leaves these fields as they are. -/
theorem State.queueSight_frame (s : State) (e : Entry) (a : Pos) (l : Word) :
    (s.queueSight e a l).pins = s.pins
      ∧ (s.queueSight e a l).runState = s.runState
      ∧ (s.queueSight e a l).straps = s.straps
      ∧ (s.queueSight e a l).config = s.config
      ∧ (s.queueSight e a l).loader = s.loader
      ∧ (s.queueSight e a l).powerLost = s.powerLost
      ∧ (s.queueSight e a l).haltedAtEntry = s.haltedAtEntry
      ∧ (s.queueSight e a l).stopReleased = s.stopReleased
      ∧ (s.queueSight e a l).tach = s.tach
      ∧ (s.queueSight e a l).frontEnd = s.frontEnd
      ∧ (s.queueSight e a l).scan = s.scan
      ∧ (s.queueSight e a l).table = s.table
      ∧ (s.queueSight e a l).blockage = s.blockage
      ∧ (s.queueSight e a l).sequence = s.sequence
      ∧ (s.queueSight e a l).readWindow = s.readWindow
      ∧ (s.queueSight e a l).pockets = s.pockets
      ∧ (s.queueSight e a l).pending = s.pending := by
  unfold State.queueSight
  try dsimp only
  repeat' split
  all_goals simp
@[simp] theorem State.queueSight_pins (s : State) (e : Entry) (a : Pos) (l : Word) : (s.queueSight e a l).pins = s.pins := (State.queueSight_frame s e a l).1
@[simp] theorem State.queueSight_runState (s : State) (e : Entry) (a : Pos) (l : Word) : (s.queueSight e a l).runState = s.runState := (State.queueSight_frame s e a l).2.1
@[simp] theorem State.queueSight_straps (s : State) (e : Entry) (a : Pos) (l : Word) : (s.queueSight e a l).straps = s.straps := (State.queueSight_frame s e a l).2.2.1
@[simp] theorem State.queueSight_config (s : State) (e : Entry) (a : Pos) (l : Word) : (s.queueSight e a l).config = s.config := (State.queueSight_frame s e a l).2.2.2.1
@[simp] theorem State.queueSight_loader (s : State) (e : Entry) (a : Pos) (l : Word) : (s.queueSight e a l).loader = s.loader := (State.queueSight_frame s e a l).2.2.2.2.1
@[simp] theorem State.queueSight_powerLost (s : State) (e : Entry) (a : Pos) (l : Word) : (s.queueSight e a l).powerLost = s.powerLost := (State.queueSight_frame s e a l).2.2.2.2.2.1
@[simp] theorem State.queueSight_haltedAtEntry (s : State) (e : Entry) (a : Pos) (l : Word) : (s.queueSight e a l).haltedAtEntry = s.haltedAtEntry := (State.queueSight_frame s e a l).2.2.2.2.2.2.1
@[simp] theorem State.queueSight_stopReleased (s : State) (e : Entry) (a : Pos) (l : Word) : (s.queueSight e a l).stopReleased = s.stopReleased := (State.queueSight_frame s e a l).2.2.2.2.2.2.2.1
@[simp] theorem State.queueSight_tach (s : State) (e : Entry) (a : Pos) (l : Word) : (s.queueSight e a l).tach = s.tach := (State.queueSight_frame s e a l).2.2.2.2.2.2.2.2.1
@[simp] theorem State.queueSight_frontEnd (s : State) (e : Entry) (a : Pos) (l : Word) : (s.queueSight e a l).frontEnd = s.frontEnd := (State.queueSight_frame s e a l).2.2.2.2.2.2.2.2.2.1
@[simp] theorem State.queueSight_scan (s : State) (e : Entry) (a : Pos) (l : Word) : (s.queueSight e a l).scan = s.scan := (State.queueSight_frame s e a l).2.2.2.2.2.2.2.2.2.2.1
@[simp] theorem State.queueSight_table (s : State) (e : Entry) (a : Pos) (l : Word) : (s.queueSight e a l).table = s.table := (State.queueSight_frame s e a l).2.2.2.2.2.2.2.2.2.2.2.1
@[simp] theorem State.queueSight_blockage (s : State) (e : Entry) (a : Pos) (l : Word) : (s.queueSight e a l).blockage = s.blockage := (State.queueSight_frame s e a l).2.2.2.2.2.2.2.2.2.2.2.2.1
@[simp] theorem State.queueSight_sequence (s : State) (e : Entry) (a : Pos) (l : Word) : (s.queueSight e a l).sequence = s.sequence := (State.queueSight_frame s e a l).2.2.2.2.2.2.2.2.2.2.2.2.2.1
@[simp] theorem State.queueSight_readWindow (s : State) (e : Entry) (a : Pos) (l : Word) : (s.queueSight e a l).readWindow = s.readWindow := (State.queueSight_frame s e a l).2.2.2.2.2.2.2.2.2.2.2.2.2.2.1
@[simp] theorem State.queueSight_pockets (s : State) (e : Entry) (a : Pos) (l : Word) : (s.queueSight e a l).pockets = s.pockets := (State.queueSight_frame s e a l).2.2.2.2.2.2.2.2.2.2.2.2.2.2.2.1
@[simp] theorem State.queueSight_pending (s : State) (e : Entry) (a : Pos) (l : Word) : (s.queueSight e a l).pending = s.pending := (State.queueSight_frame s e a l).2.2.2.2.2.2.2.2.2.2.2.2.2.2.2.2
@[simp] theorem State.queueSight_cfg (s : State) (e : Entry) (a : Pos) (l : Word) : (s.queueSight e a l).cfg = s.cfg := by simp only [State.cfg, State.queueSight_config]

/-- State.fragment leaves these fields as they are. -/
theorem State.fragment_frame (s : State) (e : Entry) :
    (s.fragment e).pins = s.pins
      ∧ (s.fragment e).runState = s.runState
      ∧ (s.fragment e).straps = s.straps
      ∧ (s.fragment e).config = s.config
      ∧ (s.fragment e).loader = s.loader
      ∧ (s.fragment e).powerLost = s.powerLost
      ∧ (s.fragment e).haltedAtEntry = s.haltedAtEntry
      ∧ (s.fragment e).stopReleased = s.stopReleased
      ∧ (s.fragment e).tach = s.tach
      ∧ (s.fragment e).sequence = s.sequence
      ∧ (s.fragment e).readWindow = s.readWindow
      ∧ (s.fragment e).pockets = s.pockets
      ∧ (s.fragment e).pending = s.pending := by
  unfold State.fragment
  try dsimp only
  repeat' split
  all_goals simp
@[simp] theorem State.fragment_pins (s : State) (e : Entry) : (s.fragment e).pins = s.pins := (State.fragment_frame s e).1
@[simp] theorem State.fragment_runState (s : State) (e : Entry) : (s.fragment e).runState = s.runState := (State.fragment_frame s e).2.1
@[simp] theorem State.fragment_straps (s : State) (e : Entry) : (s.fragment e).straps = s.straps := (State.fragment_frame s e).2.2.1
@[simp] theorem State.fragment_config (s : State) (e : Entry) : (s.fragment e).config = s.config := (State.fragment_frame s e).2.2.2.1
@[simp] theorem State.fragment_loader (s : State) (e : Entry) : (s.fragment e).loader = s.loader := (State.fragment_frame s e).2.2.2.2.1
@[simp] theorem State.fragment_powerLost (s : State) (e : Entry) : (s.fragment e).powerLost = s.powerLost := (State.fragment_frame s e).2.2.2.2.2.1
@[simp] theorem State.fragment_haltedAtEntry (s : State) (e : Entry) : (s.fragment e).haltedAtEntry = s.haltedAtEntry := (State.fragment_frame s e).2.2.2.2.2.2.1
@[simp] theorem State.fragment_stopReleased (s : State) (e : Entry) : (s.fragment e).stopReleased = s.stopReleased := (State.fragment_frame s e).2.2.2.2.2.2.2.1
@[simp] theorem State.fragment_tach (s : State) (e : Entry) : (s.fragment e).tach = s.tach := (State.fragment_frame s e).2.2.2.2.2.2.2.2.1
@[simp] theorem State.fragment_sequence (s : State) (e : Entry) : (s.fragment e).sequence = s.sequence := (State.fragment_frame s e).2.2.2.2.2.2.2.2.2.1
@[simp] theorem State.fragment_readWindow (s : State) (e : Entry) : (s.fragment e).readWindow = s.readWindow := (State.fragment_frame s e).2.2.2.2.2.2.2.2.2.2.1
@[simp] theorem State.fragment_pockets (s : State) (e : Entry) : (s.fragment e).pockets = s.pockets := (State.fragment_frame s e).2.2.2.2.2.2.2.2.2.2.2.1
@[simp] theorem State.fragment_pending (s : State) (e : Entry) : (s.fragment e).pending = s.pending := (State.fragment_frame s e).2.2.2.2.2.2.2.2.2.2.2.2
@[simp] theorem State.fragment_cfg (s : State) (e : Entry) : (s.fragment e).cfg = s.cfg := by simp only [State.cfg, State.fragment_config]

/-- State.letterPassed leaves these fields as they are. -/
theorem State.letterPassed_frame (s : State) (e : Entry) (a : Pos) (l : Word) :
    (s.letterPassed e a l).pins = s.pins
      ∧ (s.letterPassed e a l).runState = s.runState
      ∧ (s.letterPassed e a l).straps = s.straps
      ∧ (s.letterPassed e a l).config = s.config
      ∧ (s.letterPassed e a l).loader = s.loader
      ∧ (s.letterPassed e a l).powerLost = s.powerLost
      ∧ (s.letterPassed e a l).haltedAtEntry = s.haltedAtEntry
      ∧ (s.letterPassed e a l).stopReleased = s.stopReleased
      ∧ (s.letterPassed e a l).tach = s.tach
      ∧ (s.letterPassed e a l).sequence = s.sequence
      ∧ (s.letterPassed e a l).pending = s.pending := by
  unfold State.letterPassed
  try dsimp only
  simp only [State.retireIfDue_pins, State.setClosePoint_pins, State.retireIfDue_runState, State.setClosePoint_runState, State.retireIfDue_straps, State.setClosePoint_straps, State.retireIfDue_config, State.setClosePoint_config, State.retireIfDue_loader, State.setClosePoint_loader, State.retireIfDue_powerLost, State.setClosePoint_powerLost, State.retireIfDue_haltedAtEntry, State.setClosePoint_haltedAtEntry, State.retireIfDue_stopReleased, State.setClosePoint_stopReleased, State.retireIfDue_tach, State.setClosePoint_tach, State.retireIfDue_sequence, State.setClosePoint_sequence, State.retireIfDue_pending, State.setClosePoint_pending]
  repeat' split
  all_goals simp
@[simp] theorem State.letterPassed_pins (s : State) (e : Entry) (a : Pos) (l : Word) : (s.letterPassed e a l).pins = s.pins := (State.letterPassed_frame s e a l).1
@[simp] theorem State.letterPassed_runState (s : State) (e : Entry) (a : Pos) (l : Word) : (s.letterPassed e a l).runState = s.runState := (State.letterPassed_frame s e a l).2.1
@[simp] theorem State.letterPassed_straps (s : State) (e : Entry) (a : Pos) (l : Word) : (s.letterPassed e a l).straps = s.straps := (State.letterPassed_frame s e a l).2.2.1
@[simp] theorem State.letterPassed_config (s : State) (e : Entry) (a : Pos) (l : Word) : (s.letterPassed e a l).config = s.config := (State.letterPassed_frame s e a l).2.2.2.1
@[simp] theorem State.letterPassed_loader (s : State) (e : Entry) (a : Pos) (l : Word) : (s.letterPassed e a l).loader = s.loader := (State.letterPassed_frame s e a l).2.2.2.2.1
@[simp] theorem State.letterPassed_powerLost (s : State) (e : Entry) (a : Pos) (l : Word) : (s.letterPassed e a l).powerLost = s.powerLost := (State.letterPassed_frame s e a l).2.2.2.2.2.1
@[simp] theorem State.letterPassed_haltedAtEntry (s : State) (e : Entry) (a : Pos) (l : Word) : (s.letterPassed e a l).haltedAtEntry = s.haltedAtEntry := (State.letterPassed_frame s e a l).2.2.2.2.2.2.1
@[simp] theorem State.letterPassed_stopReleased (s : State) (e : Entry) (a : Pos) (l : Word) : (s.letterPassed e a l).stopReleased = s.stopReleased := (State.letterPassed_frame s e a l).2.2.2.2.2.2.2.1
@[simp] theorem State.letterPassed_tach (s : State) (e : Entry) (a : Pos) (l : Word) : (s.letterPassed e a l).tach = s.tach := (State.letterPassed_frame s e a l).2.2.2.2.2.2.2.2.1
@[simp] theorem State.letterPassed_sequence (s : State) (e : Entry) (a : Pos) (l : Word) : (s.letterPassed e a l).sequence = s.sequence := (State.letterPassed_frame s e a l).2.2.2.2.2.2.2.2.2.1
@[simp] theorem State.letterPassed_pending (s : State) (e : Entry) (a : Pos) (l : Word) : (s.letterPassed e a l).pending = s.pending := (State.letterPassed_frame s e a l).2.2.2.2.2.2.2.2.2.2
@[simp] theorem State.letterPassed_cfg (s : State) (e : Entry) (a : Pos) (l : Word) : (s.letterPassed e a l).cfg = s.cfg := by simp only [State.cfg, State.letterPassed_config]

/-- State.shortBlockage leaves these fields as they are. -/
theorem State.shortBlockage_frame (s : State) (e : Entry) (a : Pos) (l : Word) :
    (s.shortBlockage e a l).pins = s.pins
      ∧ (s.shortBlockage e a l).runState = s.runState
      ∧ (s.shortBlockage e a l).straps = s.straps
      ∧ (s.shortBlockage e a l).config = s.config
      ∧ (s.shortBlockage e a l).loader = s.loader
      ∧ (s.shortBlockage e a l).powerLost = s.powerLost
      ∧ (s.shortBlockage e a l).haltedAtEntry = s.haltedAtEntry
      ∧ (s.shortBlockage e a l).stopReleased = s.stopReleased
      ∧ (s.shortBlockage e a l).tach = s.tach
      ∧ (s.shortBlockage e a l).sequence = s.sequence
      ∧ (s.shortBlockage e a l).pending = s.pending := by
  unfold State.shortBlockage
  try dsimp only
  repeat' split
  all_goals simp
@[simp] theorem State.shortBlockage_pins (s : State) (e : Entry) (a : Pos) (l : Word) : (s.shortBlockage e a l).pins = s.pins := (State.shortBlockage_frame s e a l).1
@[simp] theorem State.shortBlockage_runState (s : State) (e : Entry) (a : Pos) (l : Word) : (s.shortBlockage e a l).runState = s.runState := (State.shortBlockage_frame s e a l).2.1
@[simp] theorem State.shortBlockage_straps (s : State) (e : Entry) (a : Pos) (l : Word) : (s.shortBlockage e a l).straps = s.straps := (State.shortBlockage_frame s e a l).2.2.1
@[simp] theorem State.shortBlockage_config (s : State) (e : Entry) (a : Pos) (l : Word) : (s.shortBlockage e a l).config = s.config := (State.shortBlockage_frame s e a l).2.2.2.1
@[simp] theorem State.shortBlockage_loader (s : State) (e : Entry) (a : Pos) (l : Word) : (s.shortBlockage e a l).loader = s.loader := (State.shortBlockage_frame s e a l).2.2.2.2.1
@[simp] theorem State.shortBlockage_powerLost (s : State) (e : Entry) (a : Pos) (l : Word) : (s.shortBlockage e a l).powerLost = s.powerLost := (State.shortBlockage_frame s e a l).2.2.2.2.2.1
@[simp] theorem State.shortBlockage_haltedAtEntry (s : State) (e : Entry) (a : Pos) (l : Word) : (s.shortBlockage e a l).haltedAtEntry = s.haltedAtEntry := (State.shortBlockage_frame s e a l).2.2.2.2.2.2.1
@[simp] theorem State.shortBlockage_stopReleased (s : State) (e : Entry) (a : Pos) (l : Word) : (s.shortBlockage e a l).stopReleased = s.stopReleased := (State.shortBlockage_frame s e a l).2.2.2.2.2.2.2.1
@[simp] theorem State.shortBlockage_tach (s : State) (e : Entry) (a : Pos) (l : Word) : (s.shortBlockage e a l).tach = s.tach := (State.shortBlockage_frame s e a l).2.2.2.2.2.2.2.2.1
@[simp] theorem State.shortBlockage_sequence (s : State) (e : Entry) (a : Pos) (l : Word) : (s.shortBlockage e a l).sequence = s.sequence := (State.shortBlockage_frame s e a l).2.2.2.2.2.2.2.2.2.1
@[simp] theorem State.shortBlockage_pending (s : State) (e : Entry) (a : Pos) (l : Word) : (s.shortBlockage e a l).pending = s.pending := (State.shortBlockage_frame s e a l).2.2.2.2.2.2.2.2.2.2
@[simp] theorem State.shortBlockage_cfg (s : State) (e : Entry) (a : Pos) (l : Word) : (s.shortBlockage e a l).cfg = s.cfg := by simp only [State.cfg, State.shortBlockage_config]

/-- State.trailingEdge leaves these fields as they are. -/
theorem State.trailingEdge_frame (s : State) :
    s.trailingEdge.pins = s.pins
      ∧ s.trailingEdge.runState = s.runState
      ∧ s.trailingEdge.straps = s.straps
      ∧ s.trailingEdge.config = s.config
      ∧ s.trailingEdge.loader = s.loader
      ∧ s.trailingEdge.powerLost = s.powerLost
      ∧ s.trailingEdge.haltedAtEntry = s.haltedAtEntry
      ∧ s.trailingEdge.stopReleased = s.stopReleased
      ∧ s.trailingEdge.tach = s.tach
      ∧ s.trailingEdge.sequence = s.sequence
      ∧ s.trailingEdge.pending = s.pending := by
  unfold State.trailingEdge
  try dsimp only
  repeat' split
  all_goals simp
@[simp] theorem State.trailingEdge_pins (s : State) : s.trailingEdge.pins = s.pins := (State.trailingEdge_frame s).1
@[simp] theorem State.trailingEdge_runState (s : State) : s.trailingEdge.runState = s.runState := (State.trailingEdge_frame s).2.1
@[simp] theorem State.trailingEdge_straps (s : State) : s.trailingEdge.straps = s.straps := (State.trailingEdge_frame s).2.2.1
@[simp] theorem State.trailingEdge_config (s : State) : s.trailingEdge.config = s.config := (State.trailingEdge_frame s).2.2.2.1
@[simp] theorem State.trailingEdge_loader (s : State) : s.trailingEdge.loader = s.loader := (State.trailingEdge_frame s).2.2.2.2.1
@[simp] theorem State.trailingEdge_powerLost (s : State) : s.trailingEdge.powerLost = s.powerLost := (State.trailingEdge_frame s).2.2.2.2.2.1
@[simp] theorem State.trailingEdge_haltedAtEntry (s : State) : s.trailingEdge.haltedAtEntry = s.haltedAtEntry := (State.trailingEdge_frame s).2.2.2.2.2.2.1
@[simp] theorem State.trailingEdge_stopReleased (s : State) : s.trailingEdge.stopReleased = s.stopReleased := (State.trailingEdge_frame s).2.2.2.2.2.2.2.1
@[simp] theorem State.trailingEdge_tach (s : State) : s.trailingEdge.tach = s.tach := (State.trailingEdge_frame s).2.2.2.2.2.2.2.2.1
@[simp] theorem State.trailingEdge_sequence (s : State) : s.trailingEdge.sequence = s.sequence := (State.trailingEdge_frame s).2.2.2.2.2.2.2.2.2.1
@[simp] theorem State.trailingEdge_pending (s : State) : s.trailingEdge.pending = s.pending := (State.trailingEdge_frame s).2.2.2.2.2.2.2.2.2.2
@[simp] theorem State.trailingEdge_cfg (s : State) : s.trailingEdge.cfg = s.cfg := by simp only [State.cfg, State.trailingEdge_config]

/-- State.orphanArrival leaves these fields as they are. -/
theorem State.orphanArrival_frame (s : State) :
    s.orphanArrival.pins = s.pins
      ∧ s.orphanArrival.runState = s.runState
      ∧ s.orphanArrival.straps = s.straps
      ∧ s.orphanArrival.config = s.config
      ∧ s.orphanArrival.loader = s.loader
      ∧ s.orphanArrival.powerLost = s.powerLost
      ∧ s.orphanArrival.haltedAtEntry = s.haltedAtEntry
      ∧ s.orphanArrival.stopReleased = s.stopReleased
      ∧ s.orphanArrival.counters = s.counters
      ∧ s.orphanArrival.tach = s.tach
      ∧ s.orphanArrival.readWindow = s.readWindow
      ∧ s.orphanArrival.pockets = s.pockets
      ∧ s.orphanArrival.line = s.line
      ∧ s.orphanArrival.pending = s.pending := by
  unfold State.orphanArrival
  try dsimp only
  repeat' split
  all_goals simp
@[simp] theorem State.orphanArrival_pins (s : State) : s.orphanArrival.pins = s.pins := (State.orphanArrival_frame s).1
@[simp] theorem State.orphanArrival_runState (s : State) : s.orphanArrival.runState = s.runState := (State.orphanArrival_frame s).2.1
@[simp] theorem State.orphanArrival_straps (s : State) : s.orphanArrival.straps = s.straps := (State.orphanArrival_frame s).2.2.1
@[simp] theorem State.orphanArrival_config (s : State) : s.orphanArrival.config = s.config := (State.orphanArrival_frame s).2.2.2.1
@[simp] theorem State.orphanArrival_loader (s : State) : s.orphanArrival.loader = s.loader := (State.orphanArrival_frame s).2.2.2.2.1
@[simp] theorem State.orphanArrival_powerLost (s : State) : s.orphanArrival.powerLost = s.powerLost := (State.orphanArrival_frame s).2.2.2.2.2.1
@[simp] theorem State.orphanArrival_haltedAtEntry (s : State) : s.orphanArrival.haltedAtEntry = s.haltedAtEntry := (State.orphanArrival_frame s).2.2.2.2.2.2.1
@[simp] theorem State.orphanArrival_stopReleased (s : State) : s.orphanArrival.stopReleased = s.stopReleased := (State.orphanArrival_frame s).2.2.2.2.2.2.2.1
@[simp] theorem State.orphanArrival_counters (s : State) : s.orphanArrival.counters = s.counters := (State.orphanArrival_frame s).2.2.2.2.2.2.2.2.1
@[simp] theorem State.orphanArrival_tach (s : State) : s.orphanArrival.tach = s.tach := (State.orphanArrival_frame s).2.2.2.2.2.2.2.2.2.1
@[simp] theorem State.orphanArrival_readWindow (s : State) : s.orphanArrival.readWindow = s.readWindow := (State.orphanArrival_frame s).2.2.2.2.2.2.2.2.2.2.1
@[simp] theorem State.orphanArrival_pockets (s : State) : s.orphanArrival.pockets = s.pockets := (State.orphanArrival_frame s).2.2.2.2.2.2.2.2.2.2.2.1
@[simp] theorem State.orphanArrival_line (s : State) : s.orphanArrival.line = s.line := (State.orphanArrival_frame s).2.2.2.2.2.2.2.2.2.2.2.2.1
@[simp] theorem State.orphanArrival_pending (s : State) : s.orphanArrival.pending = s.pending := (State.orphanArrival_frame s).2.2.2.2.2.2.2.2.2.2.2.2.2
@[simp] theorem State.orphanArrival_cfg (s : State) : s.orphanArrival.cfg = s.cfg := by simp only [State.cfg, State.orphanArrival_config]

/-- State.leadingEdge leaves these fields as they are. -/
theorem State.leadingEdge_frame (s : State) :
    s.leadingEdge.pins = s.pins
      ∧ s.leadingEdge.runState = s.runState
      ∧ s.leadingEdge.straps = s.straps
      ∧ s.leadingEdge.config = s.config
      ∧ s.leadingEdge.loader = s.loader
      ∧ s.leadingEdge.powerLost = s.powerLost
      ∧ s.leadingEdge.haltedAtEntry = s.haltedAtEntry
      ∧ s.leadingEdge.stopReleased = s.stopReleased
      ∧ s.leadingEdge.tach = s.tach
      ∧ s.leadingEdge.pending = s.pending := by
  unfold State.leadingEdge
  try dsimp only
  repeat' split
  all_goals simp
@[simp] theorem State.leadingEdge_pins (s : State) : s.leadingEdge.pins = s.pins := (State.leadingEdge_frame s).1
@[simp] theorem State.leadingEdge_runState (s : State) : s.leadingEdge.runState = s.runState := (State.leadingEdge_frame s).2.1
@[simp] theorem State.leadingEdge_straps (s : State) : s.leadingEdge.straps = s.straps := (State.leadingEdge_frame s).2.2.1
@[simp] theorem State.leadingEdge_config (s : State) : s.leadingEdge.config = s.config := (State.leadingEdge_frame s).2.2.2.1
@[simp] theorem State.leadingEdge_loader (s : State) : s.leadingEdge.loader = s.loader := (State.leadingEdge_frame s).2.2.2.2.1
@[simp] theorem State.leadingEdge_powerLost (s : State) : s.leadingEdge.powerLost = s.powerLost := (State.leadingEdge_frame s).2.2.2.2.2.1
@[simp] theorem State.leadingEdge_haltedAtEntry (s : State) : s.leadingEdge.haltedAtEntry = s.haltedAtEntry := (State.leadingEdge_frame s).2.2.2.2.2.2.1
@[simp] theorem State.leadingEdge_stopReleased (s : State) : s.leadingEdge.stopReleased = s.stopReleased := (State.leadingEdge_frame s).2.2.2.2.2.2.2.1
@[simp] theorem State.leadingEdge_tach (s : State) : s.leadingEdge.tach = s.tach := (State.leadingEdge_frame s).2.2.2.2.2.2.2.2.1
@[simp] theorem State.leadingEdge_pending (s : State) : s.leadingEdge.pending = s.pending := (State.leadingEdge_frame s).2.2.2.2.2.2.2.2.2
@[simp] theorem State.leadingEdge_cfg (s : State) : s.leadingEdge.cfg = s.cfg := by simp only [State.cfg, State.leadingEdge_config]

/-- State.decideEntry leaves these fields as they are. -/
theorem State.decideEntry_frame (s : State) (e : Entry) :
    (s.decideEntry e).pins = s.pins
      ∧ (s.decideEntry e).runState = s.runState
      ∧ (s.decideEntry e).straps = s.straps
      ∧ (s.decideEntry e).config = s.config
      ∧ (s.decideEntry e).loader = s.loader
      ∧ (s.decideEntry e).powerLost = s.powerLost
      ∧ (s.decideEntry e).haltedAtEntry = s.haltedAtEntry
      ∧ (s.decideEntry e).stopReleased = s.stopReleased
      ∧ (s.decideEntry e).tach = s.tach
      ∧ (s.decideEntry e).frontEnd = s.frontEnd
      ∧ (s.decideEntry e).scan = s.scan
      ∧ (s.decideEntry e).blockage = s.blockage
      ∧ (s.decideEntry e).sequence = s.sequence
      ∧ (s.decideEntry e).readWindow = s.readWindow
      ∧ (s.decideEntry e).pending = s.pending := by
  unfold State.decideEntry
  try dsimp only
  repeat' split
  all_goals simp
@[simp] theorem State.decideEntry_pins (s : State) (e : Entry) : (s.decideEntry e).pins = s.pins := (State.decideEntry_frame s e).1
@[simp] theorem State.decideEntry_runState (s : State) (e : Entry) : (s.decideEntry e).runState = s.runState := (State.decideEntry_frame s e).2.1
@[simp] theorem State.decideEntry_straps (s : State) (e : Entry) : (s.decideEntry e).straps = s.straps := (State.decideEntry_frame s e).2.2.1
@[simp] theorem State.decideEntry_config (s : State) (e : Entry) : (s.decideEntry e).config = s.config := (State.decideEntry_frame s e).2.2.2.1
@[simp] theorem State.decideEntry_loader (s : State) (e : Entry) : (s.decideEntry e).loader = s.loader := (State.decideEntry_frame s e).2.2.2.2.1
@[simp] theorem State.decideEntry_powerLost (s : State) (e : Entry) : (s.decideEntry e).powerLost = s.powerLost := (State.decideEntry_frame s e).2.2.2.2.2.1
@[simp] theorem State.decideEntry_haltedAtEntry (s : State) (e : Entry) : (s.decideEntry e).haltedAtEntry = s.haltedAtEntry := (State.decideEntry_frame s e).2.2.2.2.2.2.1
@[simp] theorem State.decideEntry_stopReleased (s : State) (e : Entry) : (s.decideEntry e).stopReleased = s.stopReleased := (State.decideEntry_frame s e).2.2.2.2.2.2.2.1
@[simp] theorem State.decideEntry_tach (s : State) (e : Entry) : (s.decideEntry e).tach = s.tach := (State.decideEntry_frame s e).2.2.2.2.2.2.2.2.1
@[simp] theorem State.decideEntry_frontEnd (s : State) (e : Entry) : (s.decideEntry e).frontEnd = s.frontEnd := (State.decideEntry_frame s e).2.2.2.2.2.2.2.2.2.1
@[simp] theorem State.decideEntry_scan (s : State) (e : Entry) : (s.decideEntry e).scan = s.scan := (State.decideEntry_frame s e).2.2.2.2.2.2.2.2.2.2.1
@[simp] theorem State.decideEntry_blockage (s : State) (e : Entry) : (s.decideEntry e).blockage = s.blockage := (State.decideEntry_frame s e).2.2.2.2.2.2.2.2.2.2.2.1
@[simp] theorem State.decideEntry_sequence (s : State) (e : Entry) : (s.decideEntry e).sequence = s.sequence := (State.decideEntry_frame s e).2.2.2.2.2.2.2.2.2.2.2.2.1
@[simp] theorem State.decideEntry_readWindow (s : State) (e : Entry) : (s.decideEntry e).readWindow = s.readWindow := (State.decideEntry_frame s e).2.2.2.2.2.2.2.2.2.2.2.2.2.1
@[simp] theorem State.decideEntry_pending (s : State) (e : Entry) : (s.decideEntry e).pending = s.pending := (State.decideEntry_frame s e).2.2.2.2.2.2.2.2.2.2.2.2.2.2
@[simp] theorem State.decideEntry_cfg (s : State) (e : Entry) : (s.decideEntry e).cfg = s.cfg := by simp only [State.cfg, State.decideEntry_config]

end Sys2Proof.Machine
end

