-- ==== Sys2Proof/Laws/PerInstr.lean ====
section
/-! SUPPORT. A family of statements made command by command: the body of a well-formed received frame has at most 12 bytes
(R146, R162). -/

set_option linter.unusedSimpArgs false

namespace Sys2Proof.Laws.BodyLength

/-- The frame a well-formed command stands for, if it stands for one, has a body of at most 12 bytes. -/
def Statement (c : Instr) : Prop :=
  WellFormed c = true → ∀ kind h body, frameOf c = some (kind, h, body) → body.length ≤ 12

theorem tachEdge : Statement .tachEdge := by
  intro _ k g b hf
  cases hf

theorem tachStall : Statement .tachStall := by
  intro _ k g b hf
  cases hf

theorem noiseFilterAccept (high : Bool) : Statement (.noiseFilterAccept high) := by
  intro _ k g b hf
  cases hf

theorem quietSeen (high : Bool) : Statement (.quietSeen high) := by
  intro _ k g b hf
  cases hf

theorem runEndByQuiet (high : Bool) : Statement (.runEndByQuiet high) := by
  intro _ k g b hf
  cases hf

theorem sweepEdge : Statement .sweepEdge := by
  intro _ k g b hf
  cases hf

theorem pcellLeadingEdge : Statement .pcellLeadingEdge := by
  intro _ k g b hf
  cases hf

theorem pcellTrailingEdge : Statement .pcellTrailingEdge := by
  intro _ k g b hf
  cases hf

theorem jamPoint : Statement .jamPoint := by
  intro _ k g b hf
  cases hf

theorem expiryPoint : Statement .expiryPoint := by
  intro _ k g b hf
  cases hf

theorem retirementPoint : Statement .retirementPoint := by
  intro _ k g b hf
  cases hf

theorem scanClosePoint : Statement .scanClosePoint := by
  intro _ k g b hf
  cases hf

theorem decisionPoint : Statement .decisionPoint := by
  intro _ k g b hf
  cases hf

theorem firePoint (pocket : Fin 4) : Statement (.firePoint pocket) := by
  intro _ k g b hf
  cases hf

theorem pullInExpiry (pocket : Fin 4) : Statement (.pullInExpiry pocket) := by
  intro _ k g b hf
  cases hf

theorem chopPartExpiry (pocket : Fin 4) : Statement (.chopPartExpiry pocket) := by
  intro _ k g b hf
  cases hf

theorem releasePoint (pocket : Fin 4) : Statement (.releasePoint pocket) := by
  intro _ k g b hf
  cases hf

theorem confirmClose (pocket : Fin 4) : Statement (.confirmClose pocket) := by
  intro _ k g b hf
  cases hf

theorem pentryEdge (pocket : Fin 4) : Statement (.pentryEdge pocket) := by
  intro _ k g b hf
  cases hf

theorem pfullChange (pocket : Fin 4) (active : Bool) : Statement (.pfullChange pocket active) := by
  intro _ k g b hf
  cases hf

theorem pswapActive (pocket : Fin 4) : Statement (.pswapActive pocket) := by
  intro _ k g b hf
  cases hf

theorem pswapInactive (pocket : Fin 4) : Statement (.pswapInactive pocket) := by
  intro _ k g b hf
  cases hf

theorem busFree : Statement .busFree := by
  intro _ k g b hf
  cases hf

theorem startOfFrame (highCells : Nat) : Statement (.startOfFrame highCells) := by
  intro _ k g b hf
  cases hf

theorem arbitrationLost : Statement .arbitrationLost := by
  intro _ k g b hf
  cases hf

theorem bitError : Statement .bitError := by
  intro _ k g b hf
  cases hf

theorem attemptEnd (acked : Bool) : Statement (.attemptEnd acked) := by
  intro _ k g b hf
  cases hf

theorem sightStalePoint : Statement .sightStalePoint := by
  intro _ k g b hf
  cases hf

theorem brokenFrame (cells : List Bool) : Statement (.brokenFrame cells) := by
  intro _ k g b hf
  cases hf

theorem jamReceived (h : Header) (reason : Byte) : Statement (.jamReceived h reason) := by
  intro _ k g b hf
  cases hf
  simp [idBytes, wordBytes]

theorem clearReceived (h : Header) : Statement (.clearReceived h) := by
  intro _ k g b hf
  cases hf
  simp [idBytes, wordBytes]

theorem claimReceived (h : Header) (id : LetterId) (pocket : Byte) : Statement (.claimReceived h id pocket) := by
  intro _ k g b hf
  cases hf
  simp [idBytes, wordBytes]

theorem releaseReceived (h : Header) (id : LetterId) (pocket : Byte) (reason : Byte) : Statement (.releaseReceived h id pocket reason) := by
  intro _ k g b hf
  cases hf
  simp [idBytes, wordBytes]

theorem divertedReceived (h : Header) (id : LetterId) (pocket : Byte) (tally : Word) : Statement (.divertedReceived h id pocket tally) := by
  intro _ k g b hf
  cases hf
  simp [idBytes, wordBytes]

theorem sightReceived (h : Header) (id : LetterId) (age : Word) (length : Word) : Statement (.sightReceived h id age length) := by
  intro _ k g b hf
  cases hf
  simp [idBytes, wordBytes]

theorem readReceived (h : Header) (id : LetterId) (outcome : Byte) (quality : Byte) (sweeps : Byte) (code : Option Code) : Statement (.readReceived h id outcome quality sweeps code) := by
  intro _ k g b hf
  cases code <;> cases hf <;> simp [idBytes, wordBytes, codeBytes]

theorem lostReceived (h : Header) (id : LetterId) : Statement (.lostReceived h id) := by
  intro _ k g b hf
  cases hf
  simp [idBytes, wordBytes]

theorem pollReceived (h : Header) (target : Byte) : Statement (.pollReceived h target) := by
  intro _ k g b hf
  cases hf
  simp [idBytes, wordBytes]

theorem joinReceived (h : Header) (pockets : Byte) (crc : Word) : Statement (.joinReceived h pockets crc) := by
  intro _ k g b hf
  cases hf
  simp [idBytes, wordBytes]

theorem ignoredFrameReceived (h : Header) (kind : BitVec 4) (body : List Byte) : Statement (.ignoredFrameReceived h kind body) := by
  intro hw k g b hf
  cases hf
  simp only [WellFormed, frameIgnored, Bool.and_eq_true, decide_eq_true_eq] at hw
  exact hw.1

theorem stopPress : Statement .stopPress := by
  intro _ k g b hf
  cases hf

theorem stopRelease : Statement .stopRelease := by
  intro _ k g b hf
  cases hf

theorem resumePress : Statement .resumePress := by
  intro _ k g b hf
  cases hf

theorem resetEntry (signal : ResetSignal) : Statement (.resetEntry signal) := by
  intro _ k g b hf
  cases hf

theorem powerOkRiseInReset (straps : Straps) : Statement (.powerOkRiseInReset straps) := by
  intro _ k g b hf
  cases hf

theorem resetRelease (straps : Straps) (retain : Bool) : Statement (.resetRelease straps retain) := by
  intro _ k g b hf
  cases hf

theorem headerByteCheck (byte : Byte) : Statement (.headerByteCheck byte) := by
  intro _ k g b hf
  cases hf

theorem configReadComplete (rest : List Byte) : Statement (.configReadComplete rest) := by
  intro _ k g b hf
  cases hf

theorem videoSample (high : Bool) : Statement (.videoSample high) := by
  intro _ k g b hf
  cases hf

end Sys2Proof.Laws.BodyLength
end

