-- ==== Sys2Proof/Laws/Points.lean ====
section
/-! SUPPORT. Points and lists: when a point is reached (R5), which operation of a list an event takes (R125, R128, R130,
R134), and what finding, changing and removing the first element of a list give. -/

namespace Sys2Proof.Machine

theorem pointReached_iff (count : Pos) (p : Option Pos) : pointReached count p = true ↔ Reached count p := by
  cases p with
  | none => simp [pointReached, Reached]
  | some x =>
    unfold Reached
    constructor
    · intro h; exact ⟨x, rfl, of_decide_eq_true h⟩
    · rintro ⟨y, hy, h⟩
      cases hy
      exact decide_eq_true h

theorem reachedAt_iff (count x : Pos) : reachedAt count x = true ↔ Reached count (some x) :=
  pointReached_iff count (some x)

theorem opFires_iff (count : Pos) (o : GateOp) :
    opFires count o = true ↔ o.state = .armed ∧ Reached count (some o.fire) := by
  simp only [opFires, Bool.and_eq_true, reachedAt_iff, beq_iff_eq]

theorem opReleases_iff (count : Pos) (o : GateOp) :
    opReleases count o = true ↔ (o.state = .pullIn ∨ o.state = .hold) ∧ Reached count o.release := by
  simp only [opReleases, GateOp.active, Bool.and_eq_true, pointReached_iff, Bool.or_eq_true, beq_iff_eq]

theorem opMisses_iff (count : Pos) (o : GateOp) :
    opMisses count o = true ↔ o.state = .trailing ∧ o.confirmed = false ∧ Reached count o.confirmClose := by
  simp only [opMisses, Bool.and_eq_true, pointReached_iff, beq_iff_eq, Bool.not_eq_true', and_assoc]

theorem eligible_iff (o : GateOp) : o.eligible = true ↔ o.state ≠ .armed ∧ o.confirmed = false := by
  simp [GateOp.eligible, GateOp.fired]

theorem staleDue_iff (count : Pos) (q : QueuedFrame) :
    staleDue count q = true ↔ Reached count q.stalePoint ∧ q.staleReached = false := by
  simp only [staleDue, Bool.and_eq_true, pointReached_iff, Bool.not_eq_true']

theorem placedElsewhere_iff (s : State) (o : GateOp) :
    s.placedElsewhere o = true ↔ o.lateClaim = true ∨ ∃ e, s.entry o.id = some e ∧ e.divertedHeard = true := by
  unfold State.placedElsewhere
  cases s.entry o.id <;> simp

theorem find_first {α : Type} (p : α → Bool) (before after : List α) (x : α) (h : ∀ y ∈ before, p y = false)
    (hx : p x = true) : (before ++ x :: after).find? p = some x := by
  have hb : before.find? p = none := List.find?_eq_none.mpr (fun y hy => by simp [h y hy])
  rw [List.find?_append, hb, List.find?_cons_of_pos hx]
  rfl

theorem modifyFirst_first {α : Type} (p : α → Bool) (f : α → α) (before after : List α) (x : α)
    (h : ∀ y ∈ before, p y = false) (hx : p x = true) :
    modifyFirst p f (before ++ x :: after) = before ++ f x :: after := by
  induction before with
  | nil => simp [modifyFirst, hx]
  | cons y ys ih => simp [modifyFirst, h y, ih (fun z hz => h z (List.mem_cons_of_mem _ hz))]

theorem eraseP_first {α : Type} (p : α → Bool) (before after : List α) (x : α) (h : ∀ y ∈ before, p y = false)
    (hx : p x = true) : (before ++ x :: after).eraseP p = before ++ after := by
  induction before with
  | nil => simp [hx]
  | cons y ys ih => simp [h y, ih (fun z hz => h z (List.mem_cons_of_mem _ hz))]

theorem length_placeEntry (e : Entry) (t : List Entry) : (placeEntry e t).length = t.length + 1 := by
  induction t with
  | nil => rfl
  | cons x xs ih => unfold placeEntry; split <;> simp [ih]

theorem length_placeOp (o : GateOp) (t : List GateOp) : (placeOp o t).length = t.length + 1 := by
  induction t with
  | nil => rfl
  | cons x xs ih => unfold placeOp; split <;> simp [ih]

theorem mem_placeEntry (e x : Entry) (t : List Entry) : x ∈ placeEntry e t ↔ x = e ∨ x ∈ t := by
  induction t with
  | nil => simp [placeEntry]
  | cons y ys ih =>
    unfold placeEntry; split
    · simp
    · simp only [List.mem_cons, ih]; tauto

theorem mem_placeOp (o x : GateOp) (t : List GateOp) : x ∈ placeOp o t ↔ x = o ∨ x ∈ t := by
  induction t with
  | nil => simp [placeOp]
  | cons y ys ih =>
    unfold placeOp; split
    · simp
    · simp only [List.mem_cons, ih]; tauto

/-- POCKET_FAULT and POCKET_FULL follow the pocket states alone. -/
theorem pocketConditions_of_states (v w : PerPocket Pocket) (c : Conditions)
    (h : ∀ k, (v.get k).state = (w.get k).state) : pocketConditions v c = pocketConditions w c := by
  have h0 := h 0
  have h1 := h 1
  have h2 := h 2
  have h3 := h 3
  simp only [PerPocket.get] at h0 h1 h2 h3
  simp [pocketConditions, PerPocket.any, h0, h1, h2, h3]

/-! ### The terms of Safety.lean and the operations they spell out -/

theorem eraseP_eq_erase_of_find {α : Type} [DecidableEq α] (p q : α → Bool) (xs : List α) (o : α)
    (h : xs.find? p = some o) (hq : q o = true) : xs.eraseP (fun x => p x && q x) = xs.erase o := by
  induction xs with
  | nil => rfl
  | cons x xs ih =>
    rw [List.find?_cons] at h
    cases hp : p x with
    | true =>
      rw [hp] at h
      cases h
      simp [hp, hq]
    | false =>
      rw [hp] at h
      have hne : x ≠ o := by
        rintro rfl
        rw [List.find?_some h] at hp
        cases hp
      simp [hp, hne, ih h]

theorem State.ownOp_find (s : State) (id : LetterId) (k : Fin 4) (o : GateOp) (h : s.ownOp id = some (k, o)) :
    (s.pocket k).ops.find? (GateOp.tiedTo id) = some o := by
  obtain ⟨j, _, hj⟩ := List.exists_of_findSome?_eq_some h
  obtain ⟨x, hx, he⟩ := Option.map_eq_some_iff.mp hj
  cases he
  exact hx

/-- What telling the Sort Unit does: it is told, the letter is judged again, as the claims say it. -/
theorem State.rejudge_judgedAgain (t : State) (id : LetterId) (changed : Bool) :
    t.JudgedAgain id changed (if changed then t.rejudge id else t) := by
  refine ⟨?_, fun k o h => ⟨fun ho => ?_, fun e he hc ha => ⟨fun hm => ?_, fun hm => ?_⟩⟩⟩
  · rintro (rfl | h)
    · rfl
    · cases changed
      · rfl
      · simp only [if_true, State.rejudge, h]
        cases t.entry id <;> rfl
  · cases changed
    · rfl
    · simp only [if_true, State.rejudge, h]
      cases t.entry id <;> simp [ho]
  · simp [hc, State.rejudge, he, h, hm]
  · have hf := State.ownOp_find t id k o h
    have he' := eraseP_eq_erase_of_find (GateOp.tiedTo id) (fun x => x.state == .armed) _ o hf (by simp [ha])
    simp only [hc, if_true, State.rejudge, he, h, hm, ha]
    simp only [State.cancelOp, State.withGate, State.setPocket, State.pocket, State.releaseClaim_pockets] at he' ⊢
    simp [he']

theorem map_of_absent (t : List Entry) (id : LetterId) (f : Entry → Entry) (h : t.find? (fun e => e.id == id) = none) :
    t.map (fun e => if e.id = id then f e else e) = t := by
  rw [List.find?_eq_none] at h
  rw [← List.map_id t]
  simp only [List.map_map]
  refine List.map_congr_left fun e he => ?_
  have hne : e.id ≠ id := fun hid => h e he (by simp [hid])
  simp [hne]

/-- A read is applied to the identity, and the letter judged again if its identity changed (R81, R84). -/
theorem State.applyRead_eq (s : State) (id : LetterId) (f : Identity → Identity) :
    s.applyRead id f =
      if s.identityChanges id f then (s.withIdentity id f).rejudge id else s.withIdentity id f := by
  unfold State.applyRead State.identityChanges
  split
  · rename_i h
    rw [h]
    simp only [Option.any_none, Bool.false_eq_true, if_false, State.withIdentity]
    rw [map_of_absent s.table id _ h]
  · rename_i e h
    rw [h]
    by_cases hc : (f e.identity).state = e.identity.state <;> simp [hc, State.withIdentity, State.modifyEntry]

/-- A retirement is what R77 and R78 say. -/
theorem State.retire_eq (s : State) (e : Entry) : s.retire e = s.afterRetirement e := by
  have h : retiresUnclaimed e = true ↔
      (e.claim = .none ∨ e.claim = .releasedSelf ∨ (e.claim.isPeer = true ∧ e.arrivedWhileClaimed = true)) := by
    unfold retiresUnclaimed Claim.isPeer
    cases e.claim <;> simp
  unfold State.retire State.afterRetirement
  simp only [Bool.and_eq_true, h]
  split <;> simp [State.count, runoutOf]

end Sys2Proof.Machine
end

