-- ==== Sys2Proof/Laws/Queue.lean ====
section
/-! SUPPORT. What placing a frame in the transmit queue, offering one and starting an attempt can do (R147, R152 to R155). -/

namespace Sys2Proof.Machine

theorem placeFrame_perm (q : QueuedFrame) (l : List QueuedFrame) : (placeFrame q l).Perm (q :: l) := by
  induction l with
  | nil => exact List.Perm.refl _
  | cons x xs ih =>
    unfold placeFrame
    split
    · exact List.Perm.refl _
    · exact (List.Perm.cons x ih).trans (List.Perm.swap q x xs)

@[simp] theorem length_placeFrame (q : QueuedFrame) (l : List QueuedFrame) : (placeFrame q l).length = l.length + 1 := by
  simpa using (placeFrame_perm q l).length_eq

@[simp] theorem mem_placeFrame (q x : QueuedFrame) (l : List QueuedFrame) : x ∈ placeFrame q l ↔ x = q ∨ x ∈ l := by
  simpa using (placeFrame_perm q l).mem_iff (a := x)

theorem countP_placeFrame (p : QueuedFrame → Bool) (q : QueuedFrame) (l : List QueuedFrame) :
    (placeFrame q l).countP p = l.countP p + if p q then 1 else 0 := by
  rw [(placeFrame_perm q l).countP_eq p, List.countP_cons]

/-- The queue's order (R152). -/
def KindSorted (l : List QueuedFrame) : Prop := l.Pairwise (fun a b => frameKind a.frame ≤ frameKind b.frame)

theorem kindSorted_placeFrame (q : QueuedFrame) (l : List QueuedFrame) (h : KindSorted l) : KindSorted (placeFrame q l) := by
  induction l with
  | nil => exact List.pairwise_singleton _ _
  | cons x xs ih =>
    have hx := List.pairwise_cons.mp h
    unfold placeFrame
    split
    · rename_i hlt
      refine List.pairwise_cons.mpr ⟨fun b hb => ?_, h⟩
      rcases List.mem_cons.mp hb with rfl | hb'
      · exact Nat.le_of_lt hlt
      · exact Nat.le_trans (Nat.le_of_lt hlt) (hx.1 b hb')
    · rename_i hge
      refine List.pairwise_cons.mpr ⟨fun b hb => ?_, ih hx.2⟩
      rcases (mem_placeFrame q b xs).mp hb with rfl | hb'
      · exact Nat.le_of_not_lt hge
      · exact hx.1 b hb'

theorem removeLast_sublist {α : Type} (p : α → Bool) (l : List α) : (removeLast p l).Sublist l := by
  unfold removeLast
  have h : (l.reverse.eraseP p).Sublist l.reverse := List.eraseP_sublist
  simpa using h.reverse

theorem length_removeLast {α : Type} (p : α → Bool) (l : List α) (h : ∃ x ∈ l, p x = true) :
    (removeLast p l).length + 1 = l.length := by
  obtain ⟨x, hx, hp⟩ := h
  unfold removeLast
  have := List.length_eraseP_of_mem (l := l.reverse) (p := p) (by simpa using hx) hp
  have hl : 0 < l.length := List.length_pos_of_mem hx
  simp only [List.length_reverse] at this ⊢
  omega

/-- The new frame's kind lies below the largest of the list only if the list holds a frame of that largest kind. -/
theorem largestKind_mem (l : List QueuedFrame) : largestKind l = 0 ∨ ∃ q ∈ l, frameKind q.frame = largestKind l := by
  have gen : ∀ (l : List QueuedFrame) (k : Nat),
      l.foldl (fun k f => max k (frameKind f.frame)) k = k
        ∨ ∃ q ∈ l, frameKind q.frame = l.foldl (fun k f => max k (frameKind f.frame)) k := by
    intro l
    induction l with
    | nil => intro k; exact Or.inl rfl
    | cons x xs ih =>
      intro k
      rcases ih (max k (frameKind x.frame)) with h | ⟨q, hq, h⟩
      · rw [List.foldl_cons, h]
        rcases Nat.le_total k (frameKind x.frame) with hk | hk
        · right; exact ⟨x, List.mem_cons_self, by omega⟩
        · left; omega
      · right; exact ⟨q, List.mem_cons_of_mem _ hq, by rw [List.foldl_cons]; exact h⟩
  exact gen l 0

/-- Everything placeNew can do to the queue (R153, R154): the frame is placed in the queue, or in what is left of a full one
when a frame not in flight gives way to it, or the queue stays. -/
theorem placeNew_queue (f : Frame) (w : Line × Conditions) :
    (w.1.queue.length < 8 ∧ (placeNew f w).1.queue = placeFrame (newQueued f) w.1.queue)
      ∨ (∃ l, l.Sublist w.1.queue ∧ l.length + 1 = w.1.queue.length
          ∧ (placeNew f w).1.queue = placeFrame (newQueued f) l)
      ∨ (8 ≤ w.1.queue.length ∧ (placeNew f w).1.queue = w.1.queue) := by
  unfold placeNew
  split
  · rename_i h; exact Or.inl ⟨h, rfl⟩
  · dsimp only
    rename_i hfull
    split
    · rename_i hk
      right; left
      refine ⟨_, removeLast_sublist _ _, ?_, rfl⟩
      apply length_removeLast
      rcases largestKind_mem (w.1.queue.filter (fun q => !q.inFlight)) with h0 | ⟨q, hq, he⟩
      · omega
      · obtain ⟨hq1, hq2⟩ := List.mem_filter.mp hq
        exact ⟨q, hq1, by simp [he] at *; exact hq2⟩
    · right; right; exact ⟨Nat.le_of_not_lt hfull, rfl⟩

@[simp] theorem placeNew_state (f : Frame) (w : Line × Conditions) : (placeNew f w).1.state = w.1.state := by
  unfold placeNew; dsimp only; repeat' split
  all_goals rfl

@[simp] theorem offerFrame_state (f : Frame) (w : Line × Conditions) : (offerFrame f w).1.state = w.1.state := by
  unfold offerFrame; repeat' split
  all_goals first | rfl | simp

/-- Everything startAttempt can do to the queue (R147): the head is withdrawn as stale, or it becomes the frame in flight. -/
theorem startAttempt_queue (s : State) (w : Line × Conditions) :
    (w.1.queue = [] ∧ startAttempt s w = w)
      ∨ (∃ f rest, w.1.queue = f :: rest ∧ (startAttempt s w).1.queue = rest
          ∧ (startAttempt s w).1.state = .inFrame .receiver)
      ∨ (∃ f rest, w.1.queue = f :: rest ∧ (startAttempt s w).1.queue = { f with inFlight := true } :: rest
          ∧ (startAttempt s w).1.state = .inFrame .sender) := by
  unfold startAttempt
  split
  · rename_i h; exact Or.inl ⟨h, rfl⟩
  · rename_i f rest h
    split
    · exact Or.inr (Or.inl ⟨f, rest, h, rfl, rfl⟩)
    · exact Or.inr (Or.inr ⟨f, rest, h, rfl, rfl⟩)

end Sys2Proof.Machine
end

