-- ==== Sys2Proof/Laws/Received.lean ====
section
/-! SUPPORT. What a received-frame command does before its owning block acts. -/

namespace Sys2Proof.Machine

/-- All that a received frame does before its owning block acts (R150, R160, R161): nothing where none is taken; the
acknowledge and the tests where one of them is met; and otherwise the owning block's effect on the state it is handed on in. -/
theorem receiveOrHandOn_cases (s : State) (h : Header) (owner : State → State) :
    (s.receiveOrHandOn h owner = s ∧ ∀ t, ¬s.HandsOn h t)
      ∨ (s.line.state = .inFrame .receiver ∧ s.receiveOrHandOn h owner = s.acknowledge.testSender h
          ∧ (h.station = s.straps.station ∨ h.position = s.cfg.position))
      ∨ ∃ t, s.HandsOn h t ∧ s.receiveOrHandOn h owner = owner t := by
  have hd : s.ownNumber h = decide (h.station = s.straps.station) := rfl
  have hp : s.ownPosition h = decide (h.position = s.cfg.position) := rfl
  by_cases hm : h.station = s.straps.station ∨ h.position = s.cfg.position
  · have hb : (s.ownNumber h || s.ownPosition h) = true := by simpa [hd, hp] using hm
    have hn : ∀ t, ¬s.HandsOn h t := fun t ht => hm.elim ht.1 ht.2.1
    by_cases hr : s.line.state = .inFrame .receiver
    · exact .inr (.inl ⟨hr, by simp [State.receiveOrHandOn, State.sending, State.receive, State.receiving, hr, hb], hm⟩)
    · refine .inl ⟨?_, hn⟩
      simp only [State.receiveOrHandOn, State.receive, State.receiving, hb, if_true]
      split <;> simp [hr]
  · obtain ⟨h1, h2⟩ := not_or.mp hm
    have hb : (s.ownNumber h || s.ownPosition h) = false := by simp [hd, hp, h1, h2]
    by_cases hr : s.line.state = .inFrame .receiver
    · refine .inr (.inr ⟨s.acknowledge, ⟨h1, h2, .inl ⟨hr, rfl⟩⟩, ?_⟩)
      have ht : s.acknowledge.testSender h = s.acknowledge := by
        have e1 : s.acknowledge.ownNumber h = false := by simpa [State.ownNumber] using h1
        have e2 : s.acknowledge.ownPosition h = false := by
          show (h.position == s.cfg.position) = false
          simpa using h2
        simp only [State.testSender, e1, e2]
        rfl
      simp [State.receiveOrHandOn, State.sending, State.receive, State.receiving, hr, hb, ht]
    · by_cases hs : s.line.state = .inFrame .sender
      · exact .inr (.inr ⟨s, ⟨h1, h2, .inr ⟨hs, rfl⟩⟩, by simp [State.receiveOrHandOn, State.sending, hs, hb]⟩)
      · refine .inl ⟨by simp [State.receiveOrHandOn, State.sending, State.receive, State.receiving, hr, hs], ?_⟩
        rintro t ⟨_, _, ⟨h3, _⟩ | ⟨h3, _⟩⟩
        · exact hr h3
        · exact hs h3

end Sys2Proof.Machine
end

