-- ==== Sys2Proof/Tests/Slice0.lean ====
section
/-! SUPPORT. Our own tests: terms that WellFormed refuses, the worked cases of the manual, and, for each statement with
hypotheses, a concrete state and operands that meet them. Expected values come from the manual or from hand calculation. -/

namespace Sys2Proof.Tests

open Sys2Proof.Machine

/-! ### Building blocks -/

/-- A rule of one kind with gate distance 850. -/
def ruleT (kind : PocketKind) : PocketRule :=
  { kind := kind, excludeHeld := false, classLow := 0x20, classHigh := 0x27, gate := 850, tallyLimit := 0 }

/-- A configuration of a tail scanner station at position 6500. -/
def cfgT : StationConfig :=
  { StationConfig.absent with
    position := 6500, tail := true, scanner := true, pocketCount := 4, tol := 40, lenMin := 150, lenMax := 640,
    jamLen := 1200, decideDist := 700, retire := 2500, scanTail := 40, noiseFilter := 2, quiet := 16, voteMin := 2,
    pullIn := 14000, holdOn := 200, holdOff := 300, latency := 12000, advMax := 120, relMargin := 30, confExt := 200,
    rules := ⟨ruleT .noRead, ruleT .classRange, ruleT .hold, ruleT .suspect⟩, alertMask := 1, readRateThreshold := 6,
    holdList := [0x00583A714] }

/-- A RUNNING station at the count given, the line waiting for bus free, every pocket READY. -/
def runT (count : Pos) : State :=
  { State.reset with
    runState := .running, config := some cfgT, straps := { station := 2, rate := 2, vpol := false },
    loader := { selected := false, sent := [], header := [] },
    tach := { State.reset.tach with count := count, p8 := 1250 },
    line := { State.reset.line with state := .waitFree },
    pockets := ⟨{ Pocket.atReset with state := .ready }, { Pocket.atReset with state := .ready },
      { Pocket.atReset with state := .ready }, { Pocket.atReset with state := .ready }⟩ }

def idT : LetterId := { origin := 0, seq := 416 }

/-- A PRESENT entry that arrived at 1000; its decision point is 1700. -/
def presentT : Entry := { orphanEntry idT 1000 700 with origin := .upstream, expectedAt := some 996 }

/-- An EXPECTED entry at 1000; its expiry point is 1041. -/
def expectedT : Entry := sightEntry idT 1000 480 40 640

/-- A PASSED entry, trailing edge at 1480; its retirement point is 3980. -/
def passedT : Entry := passedEntry 1480 480 640 2500 presentT

/-- An operation with fire point 1773, release point 2360 and confirm close 2560. -/
def opT (st : OpState) : GateOp :=
  { id := idT, fire := 1773, release := some 2360, confirmClose := some 2560, state := st, confirmed := false,
    lateClaim := false }

/-- A station with one entry in its table. -/
def withEntryT (count : Pos) (e : Entry) : State := { runT count with table := [e] }

/-- A station with this queue, in this line state. -/
def withLineT (st : LineState) (q : List QueuedFrame) : State :=
  { runT 1000 with line := { (runT 1000).line with state := st, queue := q } }

/-- An upstream sender: station 1 at position 3000. -/
def upT : Header := { station := 1, position := 3000, tail := false, scanner := true }

/-- A station that receives a frame. -/
def receiverT (s : State) : State := { s with line := { s.line with state := .inFrame .receiver } }

theorem reached_of (count x : Pos) (h : (count - x).toNat ≤ 32767) : Reached count (some x) := ⟨x, rfl, h⟩

theorem takesT (s : State) (hs : s.straps.station = 2) (hc : s.config = some cfgT) (hr : s.runState = .running) :
    (receiverT s).TakesLetterFrame upT := by
  refine ⟨⟨rfl, ?_, ?_⟩, hr, ?_⟩
  · show (1 : Station) ≠ s.straps.station
    rw [hs]; decide
  · show (3000 : BitVec 14) ≠ (s.config.getD StationConfig.absent).position
    rw [hc]; decide
  · show (3000 : BitVec 14).toNat < (s.config.getD StationConfig.absent).position.toNat
    rw [hc]; decide

/-- A station whose own CLAIM for the letter is in flight. -/
def senderT (s : State) : State :=
  { s with
    line := { s.line with state := .inFrame .sender, queue := [{ newQueued (.claim idT 0) with inFlight := true }] } }

theorem handsOnT (s t : State) (hs : s.straps.station = 2) (hc : s.config = some cfgT) (hr : s.runState = .running)
    (ht : (s.line.state = .inFrame .receiver ∧ t = s.acknowledge) ∨ (s.line.state = .inFrame .sender ∧ t = s)) :
    s.HandsLetterOn upT t :=
  ⟨⟨(takesT s hs hc hr).1.2.1, (takesT s hs hc hr).1.2.2, ht⟩, hr, (takesT s hs hc hr).2.2⟩

/-! ### WellFormed refuses -/

theorem test_wellformed_refuses_unbroken_cells : WellFormed (.brokenFrame [true, false]) = false := by decide

theorem test_wellformed_accepts_stuff_error : WellFormed (.brokenFrame (List.replicate 8 true)) = true := by decide

theorem test_wellformed_refuses_owned_frame : WellFormed (.ignoredFrameReceived upT 0 [0]) = false := by decide

theorem test_wellformed_accepts_jam_without_reason : WellFormed (.ignoredFrameReceived upT 0 []) = true := by decide

theorem test_wellformed_refuses_short_image : WellFormed (.configReadComplete [0x00]) = false := by decide

theorem test_wellformed_accepts_whole_image : WellFormed (.configReadComplete (List.replicate 73 0)) = true := by decide

/-! ### Frames of the track line -/

/-- Byte 0 of station 1's SIGHT is 51 hex, of station 2's DIVERTED 42 hex, of station 3's READ 63 hex (section 8.7). -/
theorem test_byte0_of_worked_arbitration :
    ((headerBytes 5 { upT with station := 1 } 6).getD 0 0, (headerBytes 4 { upT with station := 2 } 5).getD 0 0,
      (headerBytes 6 { upT with station := 3 } 5).getD 0 0) = (0x51, 0x42, 0x63) := by decide

/-- A CLAIM of letter 0.0416 for pocket 3 from station 1 at 3000: bytes 21 03 4B B8, then 01 A0 03 (section 8.6). -/
theorem test_claim_row : commandOfData [0x21, 0x03, 0x4B, 0xB8, 0x01, 0xA0, 0x03] = some (.claimReceived upT idT 3) := by
  decide

/-- A JAM of reason 1 and a CLEAR from the same sender (section 8.6). -/
theorem test_jam_and_clear_rows :
    (commandOfData [0x01, 0x01, 0x4B, 0xB8, 0x01], commandOfData [0x11, 0x00, 0x4B, 0xB8])
      = (some (.jamReceived upT 1), some (.clearReceived upT)) := by decide

/-- A POLL of all stations from a sender at 0, and a STATUS, which is ignored at a station (section 8.6, R162). -/
theorem test_poll_row_and_kind_without_owner :
    (commandOfData [0x9F, 0x01, 0x00, 0x00, 0xFF], commandOfData [0xF1, 0x00, 0x4B, 0xB8])
      = (some (.pollReceived { station := 15, position := 0, tail := false, scanner := false } 0xFF),
         some (.ignoredFrameReceived upT 15 [])) := by decide

/-- The cells of a JAM read back as the JAM (R143 to R146). -/
theorem test_jam_cells_read_back : (encodeFrame (.jamReceived upT 1)).bind commandOfCells = some (.jamReceived upT 1) := by
  decide +kernel

/-- CRC-8 by hand (R145): from FF hex, eight 1 bits give FF shifted out with no exclusive-OR, 00 hex. -/
theorem test_crc8_of_ff : crc8 [0xFF] = 0x00 := by decide

/-- The table gives no bits, so no word spells a command. -/
theorem test_no_word_spells_a_command : decodeTableWord 16 0 = none := rfl

/-! ### The worked cases of the manual -/

/-- Section 1.1: B = 40 is after A = 65500, by 76. -/
theorem test_after_over_the_wrap : (forward 65500 40, isAfter (40 : Pos) 65500, isAfter (65500 : Pos) 40) = (76, true, false) := by
  decide

/-- Section 1.2: an expected position of 4981 has the window [4941, 5021]. -/
theorem test_window_of_4981 :
    (inWindow (4981 - 40) (4981 + 40) 4941, inWindow (4981 - 40) (4981 + 40) 5021, inWindow (4981 - 40) (4981 + 40) 5022)
      = (true, true, false) := by decide

/-- Section 1.5, the worked advances. -/
theorem test_worked_advances :
    (fireAdvance 1250 12000 120, fireAdvance 1600 12000 120, fireAdvance 400 12000 120, fireAdvance 65535 12000 120)
      = (77, 60, 120, 2) := by decide

/-- Section 1.4: intervals of 156 and 157 in repeating order give a P8 of 1250. -/
theorem test_p8_at_reference_speed : formP8 ⟨156, 156, 156, 157, 156, 156, 156, 157⟩ = 1250 := by decide

/-- Section 2.2, the filter at NF = 2: the lone bar sample is absorbed, the next two are accepted, the space has width 5. -/
theorem test_filter_at_two :
    let f0 : FrontEnd := { FrontEnd.atReset with capture := .inRun }
    let step (f : FrontEnd) (l : Level) := (sampleStep 2 100 l f).1
    let f := [Level.space, .space, .bar, .space, .space, .bar, .bar, .bar].foldl step f0
    (f.accepted, f.pending, f.width, f.runBuffer) = (Level.bar, 0, 3, [5]) := by decide

/-- Section 3.1: the worked check digits. -/
theorem test_worked_check_digits :
    (checkDigitPasses 0x2B04719C35E6, checkDigitPasses 0x2B04719C32F6, checkDigitPasses 0x2B04719C35E7)
      = (true, true, false) := by decide

/-- Section 3.3: the symbol with widths 31, 22, 9, 18 is the digit 1; 25, 25, 15, 15 is none. -/
theorem test_worked_symbols :
    (lookupSymbol ⟨31, 22, 9, 18⟩, lookupSymbol ⟨25, 25, 15, 15⟩, classified ⟨2, 30, 15, 30⟩)
      = (some (.digit 1), none, false) := by decide

/-- Section 3.3: the reference run, forward and face-flipped. -/
theorem test_reference_run :
    (decodeRun (printedRun 0x2B04719C35E6 10), decodeRun (printedRun 0x2B04719C35E6 10).reverse)
      = (some (0x2B04719C35E6, .forward), some (0x2B04719C35E6, .reverse)) := by decide +kernel

/-- Section 3.6: nine votes against two give quality 7. -/
theorem test_worked_vote :
    (formReadRecord 2
        { newScanRecord idT with
          sweeps := 106, runs := 71, fullRuns := 38, decodes := 11,
          candidates := [⟨0x2B04719C35E6, 9, .reverse⟩, ⟨0x2B04719C32F6, 2, .reverse⟩] }).verdict
      = .good 0x2B04719C35E6 9 2 7 .reverse := by decide

/-- Section 4.2: age 483 at a start of frame latched at 40100, 6500 counts downstream, gives E = 46117. -/
theorem test_worked_sighting :
    let s : State := { receiverT (runT 40103) with line := { (runT 40103).line with state := .inFrame .receiver, sofTach := 40100 } }
    s.expectedPosition { upT with position := 0 } 483 = 46117 := by decide

/-- Section 6.7: the decision of letter 0.0416 at station 2 arms pocket 0 with F = 46121 + 850 - 77 = 46894. -/
theorem test_worked_decision :
    let s := withEntryT 46821 (passedEntry 46601 480 640 2500 (orphanEntry idT 46121 700))
    (match exec .decisionPoint s with
      | .next t => (t.pocket 0).ops.map (fun o => (o.fire, o.release, o.confirmClose))
      | .fault _ => []
      | .refused _ => []) = [((46894 : Pos), some (47481 : Pos), some (47681 : Pos))] := by decide

/-- Section 7.8: with the first letter lost, the edge at 21880 confirms it, TRAILING, and it ends. -/
theorem test_worked_crossed_names :
    let first : GateOp := { opT .trailing with id := { origin := 0, seq := 470 } }
    let second : GateOp := { opT .hold with id := { origin := 0, seq := 471 } }
    (match exec (.pentryEdge 1) ((runT 21880).withGate 1 [first, second] (.holding true 5)) with
      | .next t => ((t.pocket 1).ops, (t.pocket 1).tally)
      | .fault _ => ([], 0)
      | .refused _ => ([], 0)) = ([{ opT .hold with id := { origin := 0, seq := 471 } }], 1) := by decide

/-- Section 7.9: the third miss in a row sets the fault flag and makes the pocket FAULT. -/
theorem test_third_miss_faults :
    let s := (withEntryT 2560 { passedT with claim := .own 0 }).withGate 0 [opT .trailing] .off
    let s := s.setPocket 0 { s.pocket 0 with missCount := 2 }
    (match exec (.confirmClose 0) s with
      | .next t => ((t.pocket 0).missCount, (t.pocket 0).fault, (t.pocket 0).state, t.counters.released)
      | .fault _ => (0, false, .off, 0)
      | .refused _ => (0, false, .off, 0)) = (3, true, .fault, 1) := by decide

/-- Section 8.8: at a queue of eight a RELEASE displaces the STATUS, and a READ is discarded when reads are the largest. -/
theorem test_queue_under_pressure :
    let q : List QueuedFrame :=
      [{ newQueued (.claim idT 0) with inFlight := true }, newQueued (.diverted idT 0 1), newQueued (.sight idT 0 1),
        newQueued (.sight idT 0 1), newQueued (.lost idT), newQueued (.lost idT), newQueued (.lost idT), newQueued .status]
    let s := withLineT (.inFrame .sender) q
    let t := s.enqueue (.release idT 0 .miss)
    (t.line.queue.map (fun x => frameKind x.frame), t.line.discards, (t.enqueue (.lost idT)).line.discards)
      = ([2, 3, 4, 5, 5, 7, 7, 7], 1, 2) := by decide

/-- The next state, if there is one. -/
def nextT (o : Host.Outcome State Fault Refusal) : Option State :=
  match o with
  | .next t => some t
  | .fault _ => none
  | .refused _ => none

/-- Station 2 sending the CLAIM of its ARMED operation in pocket 0. -/
def claimingT : State := senderT ((withEntryT 1500 { presentT with claim := .own 0 }).withGate 0 [opT .armed] .off)

/-- Section 8.8, last paragraph: an upstream CLAIM takes the letter while the own CLAIM is in flight, and the frame leaves the
queue; the attempt goes on. -/
theorem test_claim_taken_while_own_claim_in_flight :
    (nextT (exec (.claimReceived upT idT 3) claimingT)).map
        (fun t => ((t.entry idT).map Entry.claim, (t.pocket 0).ops, t.line.queue, t.line.state))
      = some (some (.peer 1 3), ([] : List GateOp), ([] : List QueuedFrame), LineState.inFrame .sender) := by decide

/-- The failed attempt of the withdrawn CLAIM is neither retried nor discarded. -/
theorem test_withdrawn_claim_is_not_retried :
    ((nextT (exec (.claimReceived upT idT 3) claimingT)).bind (fun t => nextT (exec (.attemptEnd false) t))).map
        (fun t => (t.line.queue, t.line.discards, t.line.state))
      = some (([] : List QueuedFrame), (0 : Byte), LineState.waitFree) := by decide

/-- R155: a POLL while a STATUS is in flight replaces it; a failed attempt then leaves it with attempt count 0. -/
theorem test_poll_replaces_status_in_flight :
    let s := withLineT (.inFrame .sender) [{ newQueued .status with inFlight := true, attempts := 2 }]
    ((nextT (exec (.pollReceived upT 2) s)).bind (fun t => nextT (exec (.attemptEnd false) t))).map
        (fun t => (t.line.queue, t.line.discards, t.line.state))
      = some ([newQueued .status], (0 : Byte), LineState.waitFree) := by decide

/-- Section 8.8, the last frame offered: the answer to a POLL meets a full queue while the CLAIM is in flight, and is lost. -/
theorem test_poll_answer_lost_at_full_queue :
    let s := withLineT (.inFrame .sender)
      ({ newQueued (.claim idT 0) with inFlight := true } :: List.replicate 7 (newQueued (.read ⟨idT, .failed .tie, 0⟩)))
    (nextT (exec (.pollReceived upT 255) s)).map (fun t => (t.line.queue == s.line.queue, t.line.discards, t.line.state))
      = some (true, (1 : Byte), LineState.inFrame .sender) := by decide

/-- Section 8.7: station 1 loses arbitration to station 2 at the fourth cell of byte 0, 0101 against 0100. -/
theorem test_worked_arbitration_lost :
    (followAttempt 0 [false, true, false, true, false, false, false, true] [false, true, false, false],
      followAttempt 0 [false, true] [false, true, false], followAttempt 8 [true] [false],
      followAttempt 0 [false] [true])
      = (some .arbitrationLost, some (.attemptEnd true), some .bitError, some .bitError) := by decide

/-- The image of section 9.7, its CRC left out. -/
def imageT : List Byte :=
  [0x4E, 0x42, 1, 0, 0x19, 0x64, 0, 4, 0, 40, 0, 150, 0x02, 0x80] ++ [0x04, 0xB0, 0x02, 0xBC, 0x07, 0xD0, 3, 2, 0, 8, 2, 0]
    ++ [40, 0, 0x36, 0xB0, 0, 200, 1, 0x2C, 0x2E, 0xE0, 160, 30, 0, 200]
    ++ [1, 1, 0x20, 0x27, 0x03, 0x52, 0, 0] ++ [1, 1, 0x30, 0x3F, 0x05, 0x14, 0, 0]
    ++ [1, 1, 0, 0x0F, 0x06, 0xD6, 0, 0] ++ [2, 0, 0, 0, 0x08, 0x98, 0, 0] ++ [0, 1, 6]

/-- Section 9.7: QUIET 8, ADV_MAX 160 and RETIRE 2000 are bounded to 16, kept, and raised to 2430. -/
theorem test_worked_bounding :
    ((loadedConfig imageT 0).quiet, (loadedConfig imageT 0).advMax, (loadedConfig imageT 0).retire, imageClamped imageT)
      = (16, 160, 2430, true) := by decide

/-- Section 9.7: pocket 0 is switched off, pocket 1 stays. -/
theorem test_worked_pocket_disabled :
    ((loadedConfig imageT 0).rules.p0.kind, (loadedConfig imageT 0).rules.p1.kind, imageDisables imageT)
      = (.off, .classRange, true) := by decide

/-- R169: an absent memory reads FF hex and fails at the first marker. -/
theorem test_header_of_absent_memory :
    (match exec (.headerByteCheck 0xFF) State.reset with
      | .next t => t.runState
      | .fault _ => .reset
      | .refused _ => .reset) = .halted := by decide

/-- R168: the 24 bits on CMDO are those of 03 00 00 hex, and the bits of 4E hex on CMDI are the first header byte. -/
theorem test_port_bits :
    ((List.range 24).filter (fun i => State.reset.cmdoHigh (2 * i + 1)),
      State.reset.readRow [false, true, false, false, true, true, true, false])
      = ([6, 7], some (.headerByteCheck 0x4E)) := by decide

/-! ### Hypotheses that can be met -/

theorem witness_StepRunsFrontCommandOrTicks :
    ({ State.reset with pending := [.tachEdge, .sweepEdge] } : State).pending = .tachEdge :: [.sweepEdge]
      ∧ State.reset.pending = [] ∧ State.reset.runState ≠ .reset
      ∧ ({ State.reset with runState := .reset } : State).pending = [] := by decide

theorem witness_EventsThatCannotHappenChangeNothing :
    State.reset.runState ≠ .running ∧ State.reset.samplerRuns = false ∧ (State.reset.pocket 3).ops = []
      ∧ (State.reset.pocket 3).drive = .off ∧ State.reset.line.state ≠ .inFrame .sender
      ∧ State.reset.line.state ≠ .inFrame .receiver ∧ State.reset.runState ≠ .jammed
      ∧ State.reset.line.state = .inactive ∧ State.reset.pins.pcellBlocked = false ∧ State.reset.pins.stopHigh = true
      ∧ State.reset.pins.pswap.get 0 = false ∧ State.reset.runState ≠ .reset ∧ (runT 0).runState ≠ .loading
      ∧ State.reset.loader.header.length ≠ 4 ∧ WellFormed (.brokenFrame [true]) = false
      ∧ WellFormed (.ignoredFrameReceived upT 0 [0]) = false ∧ frameOf (.clearReceived upT) ≠ none
      ∧ (runT 0).levelOf true ≠ ({ runT 0 with frontEnd := { FrontEnd.atReset with pending := 1 } } : State).frontEnd.accepted
      ∧ (runT 0).cfg.noiseFilter ≤ 1 + 1 ∧ ({ State.reset.tach with elapsed := 65534 } : TachUnit).elapsed ≠ 65535 := by
  decide

/-- Points one count ahead, and a due entry that an expiry row does not act on; a receiver, whose line is not waiting. -/
theorem witness_EventsThatCannotHappen_points :
    ¬Reached 1772 (some (opT .armed).fire) ∧ ¬Reached 2359 (opT .hold).release ∧ ¬Reached 2559 (opT .trailing).confirmClose
      ∧ ¬Reached 1699 presentT.decisionPoint ∧ (withEntryT 3980 passedT).Due passedT ∧ passedT.presence ≠ .expected
      ∧ (receiverT (runT 0)).line.state ≠ .waitFree ∧ (∀ x ∈ (runT 0).table, ¬(runT 0).Due x)
      ∧ (∀ r, (runT 0).scan = some r → ¬Reached 0 r.closePoint)
      ∧ FrontEnd.Sampled 2 .space FrontEnd.atReset { FrontEnd.atReset with width := 1, searchSamples := 1 } := by
  have ahead (c x : Pos) (h : ¬(c - x).toNat ≤ 32767) : ¬Reached c (some x) := by
    rintro ⟨y, hy, hc⟩
    cases hy
    exact h hc
  refine ⟨ahead _ _ (by decide), ahead _ _ (by decide), ahead _ _ (by decide), ahead _ _ (by decide),
    Or.inr ⟨rfl, reached_of _ _ (by decide), by decide⟩, by decide, by decide, ?_, ?_, Or.inl ⟨rfl, by decide⟩⟩
  · intro x hx
    cases hx
  · intro r hr
    cases hr

theorem witness_TachEdgeAndStall :
    State.reset.runState ≠ .reset ∧ State.reset.tach.elapsed = 65535
      ∧ ({ State.reset with runState := .reset } : State).runState = .reset := by decide

/-- The bounds of R15: latencies 0, 1, 8191, 8192 and 16383 with P8 saturated. -/
theorem witness_FireAdvanceCoversLatency :
    (65535 : Word) ≠ 0 ∧ (fireAdvance 65535 0 255).toNat = 0 ∧ (fireAdvance 65535 1 255).toNat = 1
      ∧ (fireAdvance 65535 8191 255).toNat = 1 ∧ (fireAdvance 65535 8192 255).toNat = 2
      ∧ (fireAdvance 65535 16383 255).toNat = 2 ∧ (fireAdvance 8 16383 255).toNat = 255 := by decide

/-- Both ways of a plain sample: one that agrees, and the last pending one before NF. -/
theorem witness_VideoSampleCounts :
    (runT 0).samplerRuns = true
      ∧ FrontEnd.Sampled 2 .space FrontEnd.atReset { FrontEnd.atReset with width := 1, searchSamples := 1 }
      ∧ FrontEnd.Sampled 2 .bar FrontEnd.atReset { FrontEnd.atReset with pending := 1, searchSamples := 1 }
      ∧ (runT 0).levelOf true = .bar ∧ (runT 0).levelOf false = .space := by
  refine ⟨by decide, Or.inl ⟨rfl, by decide⟩, Or.inr ⟨by decide, by decide, by decide⟩, by decide, by decide⟩

/-- A front end with a full buffer and one with 63 widths, at the NF-th disagreeing sample. -/
theorem witness_NoiseFilterAcceptChangesLevel :
    let f (c : Capture) (n : Nat) : FrontEnd :=
      { FrontEnd.atReset with pending := 1, capture := c, quietSeen := true, runBuffer := List.replicate n 1 }
    let s (c : Capture) (n : Nat) : State := { runT 0 with frontEnd := f c n }
    (s .inRun 64).samplerRuns = true ∧ (s .inRun 64).levelOf true ≠ (s .inRun 64).frontEnd.accepted
      ∧ (s .inRun 64).cfg.noiseFilter ≤ (s .inRun 64).frontEnd.pending + 1
      ∧ 64 ≤ (s .inRun 64).frontEnd.runBuffer.length ∧ (s .inRun 63).frontEnd.runBuffer.length < 64
      ∧ (s .seekingQuiet 0).frontEnd.quietSeen = true ∧ (s .closed 0).frontEnd.capture = .closed := by decide

/-- The sample that brings a quiet zone to QUIET, 16, in the search and in a run; a closed and an open front end. -/
theorem witness_QuietAndSweepEvents :
    let g : FrontEnd := { FrontEnd.atReset with width := 16, searchSamples := 16 }
    let f : FrontEnd := { FrontEnd.atReset with width := 15, searchSamples := 15 }
    FrontEnd.Sampled 2 .space { f with capture := .seekingQuiet } { g with capture := .seekingQuiet }
      ∧ 16 ≤ ({ g with capture := .seekingQuiet } : FrontEnd).quietWidth
      ∧ FrontEnd.Sampled 2 .space { f with capture := .inRun } { g with capture := .inRun }
      ∧ 16 ≤ ({ g with capture := .inRun } : FrontEnd).measured
      ∧ (runT 0).frontEnd.capture = .closed ∧ ((runT 0).openWindow idT).frontEnd.capture ≠ .closed := by
  refine ⟨Or.inl ⟨rfl, by decide⟩, by decide, Or.inl ⟨rfl, by decide⟩, by decide, by decide, by decide⟩

theorem witness_CheckDigitFindsOneError :
    checkDigitPasses 0x2B04719C35E6 = true ∧ codeDigit 0x2B04719C35E7 11 ≠ codeDigit 0x2B04719C35E6 11
      ∧ ∀ j < 12, j ≠ 11 → codeDigit 0x2B04719C35E7 j = codeDigit 0x2B04719C35E6 j := by decide

/-- The narrowest and the widest module. -/
theorem witness_PrintedCodesDecodeBothWays :
    checkDigitPasses 0x2B04719C35E6 = true ∧ 1 ≤ 1 ∧ 3 * 1 ≤ 65535 ∧ 3 * 21845 ≤ 65535 := by decide

/-- A run of 56, a run of 57 that decodes and one that does not; a list of three and of four candidates. -/
theorem witness_TakingARunCountsAndOffers :
    let run := printedRun 0x2B04719C35E6 10
    let x : Candidate := ⟨0, 1, .forward⟩
    (run.drop 1).length ≠ 57 ∧ run.length = 57 ∧ decodeRun run = some (0x2B04719C35E6, .forward)
      ∧ (List.replicate 57 (1 : Word)).length = 57 ∧ decodeRun (List.replicate 57 (1 : Word)) = none
      ∧ (∀ y ∈ [x, x, x], y.code ≠ 0x2B04719C35E6) ∧ [x, x, x].length < 4
      ∧ 4 ≤ [x, x, x, x].length ∧ (∀ y ∈ [x], y.code ≠ 0x2B04719C35E6) := by decide +kernel

/-- A winner at VOTE_MIN exactly, a tie, too few, no candidate and no full run. -/
theorem witness_VoteFormsReadRecord :
    let x (c : Code) (n : Byte) : Candidate := ⟨c, n, .forward⟩
    ([x 1 2, x 2 1].map Candidate.code).Nodup ∧ 2 ≤ (x 1 2).count.toNat
      ∧ (∀ y ∈ [x 1 2, x 2 1], y ≠ x 1 2 → y.count.toNat < (x 1 2).count.toNat)
      ∧ (¬∃ z ∈ [x 1 2, x 2 2], 2 ≤ z.count.toNat ∧ ∀ y ∈ [x 1 2, x 2 2], y ≠ z → y.count.toNat < z.count.toNat)
      ∧ (∀ z ∈ [x 1 1], z.count.toNat < 2) ∧ ([] : List Candidate) = [] := by decide

/-- A window at its close point exactly, its letter without an operation, with a fired one, and with an ARMED one whose
rule the read, a good one with two votes, makes match no more. -/
theorem witness_ScanClosePointReadsLetter :
    let r : ScanRecord :=
      { newScanRecord idT with closePoint := some 1520, fullRuns := 2, candidates := [⟨0x2B04719C35E6, 2, .forward⟩] }
    let read := verdictRead 2 (formReadRecord 2 r).verdict
    let s : State := { withEntryT 1520 { passedT with claim := .own 0 } with scan := some r }
    let armed := s.withGate 0 [opT .armed] .off
    let fired := s.withGate 0 [opT .hold] (.holding true 1)
    s.runState = .running ∧ s.scan = some r ∧ Reached s.tach.count r.closePoint ∧ s.ownOp r.id = none
      ∧ armed.scan = some r ∧ fired.scan = some r ∧ armed.ownOp r.id = some (0, opT .armed)
      ∧ fired.ownOp r.id = some (0, opT .hold) ∧ armed.identityChanges r.id read = true
      ∧ ∃ e, (armed.withIdentity r.id read).entry r.id = some e ∧ ruleMatches armed.cfg (armed.rule 0) e = false :=
  ⟨rfl, rfl, reached_of _ _ (by decide), by decide, rfl, rfl, by decide, by decide, by decide, _, rfl, by decide⟩

/-- An identity in each state, with agreement and failure counts at their maximum. -/
theorem witness_ReadsChangeIdentity :
    let i (st : IdentityState) : Identity := { Identity.unread with state := st, code := some 7, agree := 15, fail := 15 }
    (i .unread).state = .unread ∧ (i .failed).state = .failed ∧ (i .settled).code = some 7 ∧ (i .settled).code ≠ some 8
      ∧ (i .conflict).state = .conflict := by decide

/-- One rule of each kind, and an entry that carries a code. -/
theorem witness_RulesMatchByKind :
    let e : Entry := { presentT with identity := { Identity.unread with state := .settled, code := some 0x2100583A714D } }
    PocketRule.unused.kind = .off ∧ (ruleT .classRange).kind = .classRange ∧ (ruleT .hold).kind = .hold
      ∧ (ruleT .noRead).kind = .noRead ∧ (ruleT .suspect).kind = .suspect ∧ e.identity.code = some 0x2100583A714D
      ∧ ruleMatches cfgT (ruleT .classRange) e = true ∧ ruleMatches cfgT (ruleT .hold) e = true
      ∧ presentT.identity.state ≠ .settled ∧ ({ e with double := true } : Entry).double = true := by decide

/-- A letter with an open window, one without, and a blockage that names the entry. -/
theorem witness_EntriesArePlacedAndRemoved :
    let s : State := { withEntryT 1000 presentT with blockage := .blocked idT 1000 2200 }
    (∃ r, (s.openWindow idT).scan = some r ∧ r.id = idT) ∧ (¬∃ r, s.scan = some r ∧ r.id = idT)
      ∧ s.blockage = .blocked idT 1000 2200 := by
  refine ⟨⟨newScanRecord idT, by decide, rfl⟩, ?_, rfl⟩
  rintro ⟨r, hr, _⟩
  cases hr

/-- An entry at the first and at the last count of its window, behind one that does not wait. -/
theorem witness_LeadingEdgeMatchesEntry :
    (withEntryT 960 expectedT).scan = none ∧ (withEntryT 960 expectedT).pins.pcellBlocked = false
      ∧ expectedT.Awaits 40 960 ∧ expectedT.Awaits 40 1040 ∧ ¬presentT.Awaits 40 1000 := by
  refine ⟨rfl, rfl, ⟨rfl, 1000, rfl, by decide⟩, ⟨rfl, 1000, rfl, by decide⟩, ?_⟩
  rintro ⟨h, _⟩
  cases h

/-- A table with room, and a table of 48, without an entry that waits. -/
theorem witness_LeadingEdgeEntersOrphan :
    let full : State := { runT 1000 with table := List.replicate 48 passedT }
    (∀ x ∈ (withEntryT 1041 expectedT).table, ¬x.Awaits 40 1041) ∧ (withEntryT 1041 expectedT).table.length < 48
      ∧ (∀ x ∈ full.table, ¬x.Awaits 40 1000) ∧ 48 ≤ full.table.length := by
  refine ⟨?_, by decide, ?_, by decide⟩
  · intro x hx hw
    rcases List.mem_singleton.mp hx with rfl
    obtain ⟨_, y, hy, h⟩ := hw
    cases hy
    revert h
    decide
  · intro x hx hw
    rcases List.eq_of_mem_replicate hx with rfl
    exact absurd hw.1 (by decide)

theorem witness_LeadingEdgeClosesWindowFirst :
    ((runT 0).openWindow idT).scan = some (newScanRecord idT) ∧ ((runT 0).openWindow idT).runState = .running ∧ ((runT 0).openWindow idT).pins.pcellBlocked = false
      ∧ State.reset.runState ≠ .running ∧ State.reset.pins.pcellBlocked = false
      ∧ ({ State.reset with pins := { State.reset.pins with pcellBlocked := true } } : State).pins.pcellBlocked = true := by
  decide

/-- A blockage of exactly LEN_MIN, and a shorter one whose own operation has fired; a letter above LEN_MAX with an ARMED
operation; a window, and points ahead and reached at SCAN_TAIL and RETIRE of 0. -/
theorem witness_TrailingEdgePassesLetter :
    let s (count : Pos) : State :=
      { withEntryT count { presentT with claim := .own 0 } with
        pins := { (runT 0).pins with pcellBlocked := true }, blockage := .blocked idT 1000 2200 }
    let u := (s 1149).withGate 0 [opT .hold] (.holding true 1)
    let v := (s 1641).withGate 0 [opT .armed] .off
    (s 1150).entry idT = some { presentT with claim := .own 0 } ∧ (150 : Word).toNat ≤ ((1150 : Pos) - 1000).toNat
      ∧ (s 1150).ownOp idT = none ∧ u.ownOp idT = some (0, opT .hold) ∧ (opT .hold).state ≠ .armed
      ∧ presentT.double = decide ((640 : Word) < (1149 : Pos) - 1000)
      ∧ v.ownOp idT = some (0, opT .armed) ∧ (presentT.double != decide ((640 : Word) < (1641 : Pos) - 1000)) = true
      ∧ (∃ r, ((s 1150).openWindow idT).scan = some r ∧ r.id = idT)
      ∧ Reached 1150 (some ((1150 : Pos) + 0)) ∧ ¬Reached 1150 (some ((1150 : Pos) + 2500)) := by
  refine ⟨by decide, by decide, by decide, by decide, by decide, by decide, by decide, by decide,
    ⟨newScanRecord idT, by decide, rfl⟩, reached_of _ _ (by decide), ?_⟩
  rintro ⟨x, hx, h⟩
  cases hx
  revert h
  decide

/-- R43 and R77: with SCAN_TAIL and RETIRE of 0 the window closes and the letter retires in its trailing edge's event. -/
theorem test_trailing_edge_closes_and_retires :
    let s : State :=
      { withEntryT 1480 presentT with
        config := some { cfgT with scanTail := 0, retire := 0 }, pins := { (runT 0).pins with pcellBlocked := true },
        blockage := .blocked idT 1000 2200, scan := some (newScanRecord idT) }
    (match exec .pcellTrailingEdge s with
      | .next t => (t.table.length, t.scan.isSome, t.counters.failedReads, t.counters.runouts)
      | .fault _ => (9, true, 0, 0)
      | .refused _ => (9, true, 0, 0)) = (0, false, 1, 1) := by decide

/-- A blockage one short of LEN_MIN: upstream with the window ahead and past, own with and without an armed operation; and
the blockages without an entry. -/
theorem witness_TrailingEdgeEndsFragmentOrUntracked :
    let s (e : Entry) (b : Blockage) : State :=
      { withEntryT 1149 e with pins := { (runT 0).pins with pcellBlocked := true }, blockage := b }
    let own : Entry := { presentT with origin := .own, claim := .own 0 }
    ((1149 : Pos) - 1000).toNat < (150 : Word).toNat ∧ (s presentT (.blocked idT 1000 2200)).entry idT = some presentT
      ∧ presentT.claim = .none ∧ presentT.origin = .upstream
      ∧ isAfter ((1200 : Pos) + 40 + 1) 1149 = true ∧ Reached 1149 (some ((996 : Pos) + 40 + 1))
      ∧ ((s own (.blocked idT 1000 2200)).withGate 0 [opT .armed] .off).ownOp idT = some (0, opT .armed)
      ∧ (s presentT (.untracked (some idT) 1000 2200)).pins.pcellBlocked = true
      ∧ ((s { presentT with claim := .own 0 } (.blocked idT 1000 2200)).withGate 0 [opT .armed] .off).ownOp idT
          = some (0, opT .armed) :=
  ⟨by decide, by decide, rfl, rfl, by decide, reached_of _ _ (by decide), by decide, rfl, by decide⟩

theorem witness_ThreeCausesEnterJammed :
    let s : State :=
      { runT 2200 with pins := { (runT 0).pins with pcellBlocked := true }, blockage := .untracked none 1000 2200 }
    Reached s.tach.count s.blockage.jamAt ∧ s.pins.pcellBlocked = true ∧ s.pins.stopHigh = true
      ∧ s.stopReleased = true ∧ (receiverT s).HandsOn upT (receiverT s).acknowledge
      ∧ (senderT s).HandsOn upT (senderT s) :=
  ⟨reached_of _ _ (by decide), rfl, rfl, rfl, (handsOnT _ _ rfl rfl rfl (Or.inl ⟨rfl, rfl⟩)).1,
    (handsOnT _ _ rfl rfl rfl (Or.inr ⟨rfl, rfl⟩)).1⟩

/-- An entry at its expiry point exactly and one at its retirement point exactly; a tail station's claims. -/
theorem witness_DueEntriesExpireOrRetire :
    (withEntryT 1041 expectedT).Due expectedT ∧ (withEntryT 3980 passedT).Due passedT
      ∧ (withEntryT 3980 passedT).cfg.tail = true ∧ passedT.claim = .none :=
  ⟨Or.inl ⟨rfl, reached_of _ _ (by decide)⟩, Or.inr ⟨rfl, reached_of _ _ (by decide), by decide⟩, rfl, rfl⟩

/-- An unread letter that fits pocket 0 at its decision point exactly; one that fits none because the list is full. -/
theorem witness_DecisionClaimsFirstPocket :
    let s := withEntryT 1700 presentT
    let u := s.withGate 0 [opT .hold, opT .hold, opT .hold] (.holding true 1)
    Reached s.tach.count presentT.decisionPoint ∧ presentT.claim = .none ∧ s.Fits presentT 0
      ∧ (∀ j : Fin 4, j < 0 → ¬s.Fits presentT j) ∧ ∀ k, ¬u.Fits presentT k := by
  refine ⟨reached_of _ _ (by decide), rfl, by unfold State.Fits; decide, ?_, ?_⟩
  · intro j hj
    exact absurd hj (Nat.not_lt_zero _)
  · unfold State.Fits; decide

/-- A CLAIM that waits, a CLAIM in flight; an armed operation whose rule no longer matches. -/
theorem witness_ReleaseAndRejudgement :
    let e : Entry := { presentT with double := true, claim := .own 0 }
    let s := (withEntryT 1700 e).withGate 0 [opT .armed] .off
    (∃ q ∈ [newQueued (.claim idT 0)], (∃ j, q.frame = .claim idT j) ∧ q.inFlight = false)
      ∧ (¬∃ q ∈ [{ newQueued (.claim idT 0) with inFlight := true }], (∃ j, q.frame = .claim idT j) ∧ q.inFlight = false)
      ∧ s.entry idT = some e ∧ s.ownOp idT = some (0, opT .armed) ∧ ruleMatches s.cfg (s.rule 0) e = false
      ∧ (withEntryT 1700 e).ownOp idT = none := by
  refine ⟨⟨_, List.mem_singleton.mpr rfl, ⟨0, rfl⟩, rfl⟩, ?_, by decide, by decide, by decide, by decide⟩
  rintro ⟨q, hq, _, h⟩
  rcases List.mem_singleton.mp hq with rfl
  cases h

/-- An armed operation at its fire point exactly, for each phase of the drive, timers at 0 and above. -/
theorem witness_FirePointAndDriveTimers (d : Drive) :
    let s := (runT 1773).withGate 0 [opT .armed] d
    (s.pocket 0).ops = [] ++ opT .armed :: [] ∧ (opT .armed).state = .armed
      ∧ Reached s.tach.count (some (opT .armed).fire) ∧ (s.pocket 0).drive = d :=
  ⟨rfl, rfl, reached_of 1773 1773 (by decide), rfl⟩

/-- Operations at their release point exactly: confirmed, unconfirmed, and with the confirm close at the same position. -/
theorem witness_ReleasePointEndsOrTrails :
    let same : GateOp := { opT .pullIn with confirmClose := some 2360 }
    Reached (runT 2360).tach.count (opT .hold).release ∧ (opT .hold).confirmed = false
      ∧ (opT .hold).confirmClose ≠ (opT .hold).release ∧ same.confirmClose = same.release
      ∧ ({ opT .hold with confirmed := true } : GateOp).confirmed = true :=
  ⟨reached_of _ _ (by decide), rfl, by decide, rfl, rfl⟩

/-- An operation at its confirm close exactly, its letter in play, and one whose letter is placed elsewhere. -/
theorem witness_ConfirmCloseMisses :
    let s := (withEntryT 2560 passedT).withGate 0 [opT .trailing] .off
    (s.pocket 0).ops = [] ++ opT .trailing :: [] ∧ Reached s.tach.count (opT .trailing).confirmClose
      ∧ (opT .trailing).lateClaim = false ∧ s.entry idT = some passedT ∧ passedT.divertedHeard = false
      ∧ ¬Reached s.tach.count passedT.retirement
      ∧ ({ opT .trailing with lateClaim := true } : GateOp).lateClaim = true
      ∧ Reached s.tach.count ({ passedT with retirement := some 2560 } : Entry).retirement := by
  refine ⟨rfl, reached_of _ _ (by decide), rfl, by decide, rfl, ?_, rfl, reached_of _ _ (by decide)⟩
  rintro ⟨x, hx, h⟩
  cases hx
  revert h
  decide

/-- A pocket with no eligible operation, and one with a fired one behind a confirmed one. -/
theorem witness_EntryEdgeConfirmsOrStrays :
    let c : GateOp := { opT .hold with confirmed := true }
    let s := (runT 2000).withGate 0 [c, opT .hold] (.holding true 1)
    (runT 2000).joined = true ∧ ((runT 2000).pocket 0).state ≠ .off
      ∧ (∀ x ∈ ((runT 2000).pocket 0).ops, x.state = .armed ∨ x.confirmed = true)
      ∧ (s.pocket 0).ops = [c] ++ opT .hold :: [] ∧ (∀ x ∈ [c], x.state = .armed ∨ x.confirmed = true)
      ∧ (opT .hold).state ≠ .armed ∧ (opT .hold).confirmed = false
      ∧ State.reset.joined = false ∧ (State.reset.pocket 0).state = .off := by decide

/-- A pocket whose inputs are taken, and one that is OFF. -/
theorem witness_PocketInputsFormState :
    let swapped : State := { runT 0 with pins := { (runT 0).pins with pswap := ⟨true, true, true, true⟩ } }
    (runT 0).pins.pfull.get 0 ≠ true ∧ (runT 0).joined = true ∧ ((runT 0).pocket 0).state ≠ .off
      ∧ swapped.pins.pswap.get 0 = true ∧ State.reset.joined = false ∧ (State.reset.pocket 0).state = .off := by decide

/-- A pocket with an armed and a fired operation before a swap. -/
theorem witness_SwapCancelsArmedOperations :
    let s := (runT 2000).withGate 0 [opT .hold, opT .armed] (.holding true 1)
    s.pins.pswap.get 0 = false ∧ s.joined = true ∧ (s.pocket 0).state ≠ .off
      ∧ (∀ o ∈ (s.pocket 0).ops, o.state = .armed → o.confirmed = false) ∧ State.reset.joined = false := by decide

/-- ALERT with a mask bit active, in reset and in HALTED. -/
theorem witness_ConditionsSetDeltasAndMarks :
    ({ State.reset with runState := .reset } : State).runState = .reset
      ∧ ({ State.reset with runState := .halted } : State).runState = .halted
      ∧ (runT 0).runState ≠ .reset ∧ (runT 0).runState ≠ .halted
      ∧ ((runT 0).setCondition .jammed true).alertOut = true := by decide

/-- An empty queue; a SIGHT of age 16383 exactly, and one of 16384. -/
theorem witness_BusFreeStartsAttempt :
    (withLineT .waitFree []).line.queue = [] ∧ ((1000 : Pos) - (1000 - 16383)).toNat ≤ 16383
      ∧ 16383 < ((1000 : Pos) - (1000 - 16384)).toNat
      ∧ (withLineT .waitFree [newQueued (.sight idT (1000 - 16384) 480)]).line.queue
          = newQueued (.sight idT (1000 - 16384) 480) :: [] := by decide

/-- Eleven cell times of high, and ten; eight 1 cells; body lengths of 12 and 13; a CLEAR whose CRC byte is FF hex, not its
own, and whose eighth cell is a stuff cell. -/
theorem witness_StartOfFrameAndBrokenFrame :
    (withLineT .waitFree []).line.state = .waitFree ∧ 11 ≤ 11 ∧ 10 < 11 ∧ (withLineT .free []).line.state = .free
      ∧ WellFormed (.brokenFrame (List.replicate 8 true)) = true
      ∧ (withLineT (.inFrame .receiver) []).line.state = .inFrame .receiver ∧ 12 < (13 : Byte).toNat
      ∧ (12 : Byte).toNat ≤ 12 ∧ ([] : List Byte).length = (0 : Byte).toNat ∧ (0xFF : Byte) ≠ crc8 [0xFF, 0, 0, 0]
      ∧ (let cells := stuffCells 0 (bytesBits ([0xFF, 0, 0, 0] ++ [0xFF]))
        cells = [] ++ List.replicate 7 true ++ false :: cells.drop 8 ∧ cells.drop 8 ≠ []) := by decide +kernel

/-- A sender in a JAM of station 2, its first cell and the first cell after byte 0; a station that sends nothing. -/
theorem witness_AttemptBytesFollowLayout :
    let l : Line :=
      { (runT 0).line with
        state := .inFrame .sender, sending := attemptBytes (runT 0) (runT 0).conditions 0 0 (.jam .stop) }
    let s : State := { runT 0 with line := l }
    let cells := stuffCells 0 (bytesBits s.line.sending)
    s.line.state = .inFrame .sender ∧ cells = [] ++ false :: cells.drop 1
      ∧ cells = cells.take 8 ++ false :: cells.drop 9 ∧ (cells.take 8).length = 8
      ∧ (runT 0).line.state ≠ .inFrame .sender := by decide +kernel

/-- A queue of seven and of eight, a STATUS that meets a STATUS, a JOIN that meets a JOIN, a free line. -/
theorem witness_EnqueueKeepsOrder :
    let q8 : List QueuedFrame := List.replicate 7 (newQueued (.lost idT)) ++ [newQueued .status]
    (withLineT .waitFree (q8.drop 1)).line.queue.length < 8 ∧ 8 ≤ (withLineT .waitFree q8).line.queue.length
      ∧ (newQueued .status).inFlight = false ∧ frameKind (.lost idT) < frameKind (newQueued .status).frame
      ∧ (∀ q ∈ q8, q.inFlight = false → frameKind q.frame ≤ frameKind (newQueued .status).frame)
      ∧ (∀ q ∈ q8, q.inFlight = false → frameKind q.frame ≤ frameKind (.join 4 0))
      ∧ (∃ q ∈ q8, q.frame = .status) ∧ (withLineT .free []).line.state = .free
      ∧ ((withLineT .free []).tach.count - (1000 - 16383)).toNat ≤ 16383
      ∧ 16383 < ((withLineT .free []).tach.count - (1000 - 16384)).toNat := by decide

/-- A frame in flight, with and without its stale point reached; a SIGHT at its stale point exactly. -/
theorem witness_LostArbitrationAndStaleSight :
    let f : QueuedFrame := { newQueued (.sight idT (1000 - 16384) 480) with inFlight := true }
    (withLineT (.inFrame .sender) [f]).line.queue = [] ++ f :: [] ∧ f.inFlight = true ∧ f.staleReached = false
      ∧ ({ f with staleReached := true } : QueuedFrame).staleReached = true ∧ Reached 1000 f.stalePoint
      ∧ (newQueued (.sight idT (1000 - 16384) 480)).inFlight = false :=
  ⟨rfl, rfl, rfl, rfl, reached_of _ _ (by decide), rfl⟩

/-- A frame in flight with 0, 1 and 2 counted attempts, replaced and not, stale and not, a JOIN and another. -/
theorem witness_FailedAttemptIsCounted (n : Nat) (r st : Bool) :
    let f : QueuedFrame := { newQueued (.join 4 0) with inFlight := true, attempts := n, replaced := r, staleReached := st }
    (withLineT (.inFrame .sender) [f]).line.state = .inFrame .sender
      ∧ (withLineT (.inFrame .sender) [f]).line.queue = [] ++ f :: [] ∧ f.inFlight = true
      ∧ (∀ q ∈ ([] ++ [] : List QueuedFrame), q.inFlight = false) ∧ f.attempts = n ∧ f.replaced = r ∧ f.staleReached = st := by
  refine ⟨rfl, rfl, rfl, ?_, rfl, rfl, rfl⟩
  intro q hq
  cases hq

/-- A CLAIM, a STATUS, a replaced STATUS and a JOIN in flight. -/
theorem witness_AcknowledgedAttemptLeavesQueue (f : Frame) (r : Bool) :
    let q : QueuedFrame := { newQueued f with inFlight := true, replaced := r }
    (withLineT (.inFrame .sender) [q]).line.state = .inFrame .sender
      ∧ (withLineT (.inFrame .sender) [q]).line.queue = [] ++ q :: [] ∧ q.inFlight = true ∧ q.frame = f ∧ q.replaced = r :=
  ⟨rfl, rfl, rfl, rfl, rfl⟩

/-- A frame with the receiver's number, one with its position, one with both, one with neither; the kinds that nothing more
is done with. -/
theorem witness_ReceivedFramesAreAcknowledgedAndTested :
    let s := receiverT (runT 0)
    (withLineT .waitFree []).line.state ≠ .inFrame .receiver ∧ s.line.state = .inFrame .receiver
      ∧ frameOf (.joinReceived upT 4 0) = some (11, upT, [4, 0, 0]) ∧ WellFormed (.joinReceived upT 4 0) = true
      ∧ WellFormed (.ignoredFrameReceived upT 8 []) = true ∧ WellFormed (.ignoredFrameReceived upT 12 []) = true
      ∧ WellFormed (.ignoredFrameReceived upT 1 [0]) = true ∧ WellFormed (.ignoredFrameReceived upT 9 []) = true
      ∧ upT.station ≠ s.straps.station ∧ upT.position ≠ s.cfg.position
      ∧ ({ upT with station := 2 } : Header).station = s.straps.station
      ∧ ({ upT with position := 6500 } : Header).position = s.cfg.position
      ∧ s.cfg.position.toNat ≤ ({ upT with position := 6501 } : Header).position.toNat
      ∧ (receiverT State.reset).runState ≠ .running ∧ (senderT (runT 0)).line.state = .inFrame .sender := by decide

/-- An entry with each claim, its own operation armed and fired, at a receiver and at a sender of its own CLAIM. -/
theorem witness_ClaimReceivedFromUpstream (c : Claim) (st : OpState) :
    let s := receiverT ((withEntryT 1500 { presentT with claim := c }).withGate 0 [opT st] .off)
    let u := senderT ((withEntryT 1500 { presentT with claim := c }).withGate 0 [opT st] .off)
    s.HandsLetterOn upT s.acknowledge ∧ s.entry idT = some { presentT with claim := c }
      ∧ (s.pocket 0).ops = [] ++ opT st :: [] ∧ (opT st).id = idT ∧ (opT st).confirmed = false ∧ (opT st).state = st
      ∧ (receiverT (runT 0)).entry idT = none
      ∧ u.HandsLetterOn upT u ∧ u.entry idT = some { presentT with claim := c } ∧ (u.pocket 0).ops = [] ++ opT st :: []
      ∧ ∀ q ∈ u.line.queue, q.inFlight = true → ∃ i, q.frame = .claim idT i := by
  refine ⟨handsOnT _ _ rfl rfl rfl (Or.inl ⟨rfl, rfl⟩), rfl, rfl, rfl, rfl, rfl, rfl,
    handsOnT _ _ rfl rfl rfl (Or.inr ⟨rfl, rfl⟩), rfl, rfl, ?_⟩
  intro q hq _
  exact ⟨0, by rw [List.mem_singleton.mp hq]; rfl⟩

/-- The recorded claimer and pocket, and another pocket; an EXPECTED and an arrived entry. -/
theorem witness_ReleaseAndLostReceived :
    let s := receiverT (withEntryT 1500 { presentT with claim := .peer 1 3 })
    let u := senderT (withEntryT 1500 { presentT with claim := .peer 1 3 })
    s.HandsLetterOn upT s.acknowledge ∧ u.HandsLetterOn upT u ∧ s.entry idT = some { presentT with claim := .peer 1 3 }
      ∧ Claim.peer 1 3 = .peer upT.station 3 ∧ Claim.peer 1 3 ≠ .peer upT.station 2
      ∧ (receiverT (withEntryT 900 expectedT)).entry idT = some expectedT ∧ expectedT.presence = .expected
      ∧ presentT.presence ≠ .expected :=
  ⟨handsOnT _ _ rfl rfl rfl (Or.inl ⟨rfl, rfl⟩), handsOnT _ _ rfl rfl rfl (Or.inr ⟨rfl, rfl⟩), rfl, rfl, by decide, rfl,
    rfl, by decide⟩

theorem witness_DivertedReceivedFromUpstream (st : OpState) :
    let s := receiverT ((withEntryT 1500 presentT).withGate 0 [opT st] .off)
    let u := senderT ((withEntryT 1500 presentT).withGate 0 [opT st] .off)
    s.HandsLetterOn upT s.acknowledge ∧ (s.entry idT).isSome = true ∧ (s.pocket 0).ops = [] ++ opT st :: []
      ∧ (receiverT (withEntryT 1500 presentT)).ownOp idT = none ∧ (opT st).state = st ∧ u.HandsLetterOn upT u :=
  ⟨handsOnT _ _ rfl rfl rfl (Or.inl ⟨rfl, rfl⟩), rfl, rfl, by decide, rfl,
    handsOnT _ _ rfl rfl rfl (Or.inr ⟨rfl, rfl⟩)⟩

/-- Ages 16383 and 16384; a window that ends one count ahead and one that ends at the count; a table of 47 and of 48. -/
theorem witness_SightReceivedFromUpstream :
    let s := receiverT (runT 1000)
    s.TakesLetterFrame upT ∧ s.entry idT = none ∧ (16383 : Word).toNat ≤ 16383 ∧ 16383 < (16384 : Word).toNat
      ∧ isAfter ((961 : Pos) + 40) 1000 = true ∧ isAfter ((960 : Pos) + 40) 1000 = false
      ∧ (List.replicate 47 passedT).length < 48 ∧ 48 ≤ (List.replicate 48 passedT).length :=
  ⟨takesT _ rfl rfl rfl, rfl, by decide, by decide, by decide, by decide, by decide, by decide⟩

/-- A good outcome with a code that passes, a failed one without, and a good one whose code does not pass; a letter without
an operation, with an ARMED one and with a fired one; a letter not in the table. -/
theorem witness_ReadReceivedFromUpstream (st : OpState) :
    let s := receiverT (withEntryT 1500 presentT)
    let u := receiverT ((withEntryT 1500 { presentT with claim := .own 0 }).withGate 0 [opT st] .off)
    s.HandsLetterOn upT s.acknowledge ∧ s.ownOp idT = none ∧ (0x7F : Byte).toNat / 64 = 1 ∧ (0x80 : Byte).toNat / 64 = 2
      ∧ checkDigitPasses 0x2B04719C35E6 = true ∧ checkDigitPasses 0x2B04719C35E7 = false
      ∧ u.HandsLetterOn upT u.acknowledge ∧ u.ownOp idT = some (0, opT st)
      ∧ u.identityChanges idT (fun i => i.applyGood 0x2B04719C35E6 15 1) = true
      ∧ (senderT (withEntryT 1500 presentT)).HandsLetterOn upT (senderT (withEntryT 1500 presentT))
      ∧ (receiverT (runT 0)).entry idT = none :=
  ⟨handsOnT _ _ rfl rfl rfl (Or.inl ⟨rfl, rfl⟩), by decide, by decide, by decide, by decide, by decide,
    handsOnT _ _ rfl rfl rfl (Or.inl ⟨rfl, rfl⟩), rfl, rfl, handsOnT _ _ rfl rfl rfl (Or.inr ⟨rfl, rfl⟩), rfl⟩

/-- A CLEAR in JAMMED with each pair of levels, a POLL of this station, of all and of another. -/
theorem witness_ClearAndPollReceived (blocked stop : Bool) :
    let s : State :=
      { runT 0 with runState := .jammed, pins := { (runT 0).pins with pcellBlocked := blocked, stopHigh := stop } }
    let q : QueuedFrame := { newQueued .status with inFlight := true }
    let u : State := { s with line := { s.line with state := .inFrame .sender, queue := [q] } }
    (receiverT s).HandsOn upT (receiverT s).acknowledge ∧ u.HandsOn upT u ∧ u.line.queue = [] ++ q :: [] ∧ q.inFlight = true
      ∧ s.runState = .jammed ∧ s.pins.pcellBlocked = blocked ∧ s.pins.stopHigh = stop
      ∧ s.joined = true ∧ (2 : Byte).toNat = s.straps.station.toNat ∧ (255 : Byte).toNat = 255
      ∧ (3 : Byte).toNat ≠ s.straps.station.toNat ∧ (runT 0).runState ≠ .jammed :=
  have hs : (1 : Station) ≠ 2 := by decide
  have hp : (3000 : BitVec 14) ≠ cfgT.position := by decide
  ⟨⟨hs, hp, Or.inl ⟨rfl, rfl⟩⟩, ⟨hs, hp, Or.inr ⟨rfl, rfl⟩⟩, rfl, rfl, rfl, rfl, rfl, rfl,
    rfl, rfl, by show (3 : Nat) ≠ 2; decide, by decide⟩

theorem witness_StopAndResumePresses (blocked stop released : Bool) (r : RunState) :
    let s : State :=
      { runT 0 with
        runState := r, stopReleased := released,
        pins := { (runT 0).pins with pcellBlocked := blocked, stopHigh := stop } }
    s.runState = r ∧ s.stopReleased = released ∧ s.pins.pcellBlocked = blocked ∧ s.pins.stopHigh = stop :=
  ⟨rfl, rfl, rfl, rfl⟩

/-- Both signals high; and both low, in RESET. -/
theorem witness_ResetEntryAbandonsWork :
    (runT 0).pins.powerOk = true ∧ (runT 0).pins.resetHigh = true
      ∧ (let s : State :=
          { State.reset with runState := .reset, pins := { State.reset.pins with powerOk := false, resetHigh := false } }
        s.runState = .reset ∧ s.pins.powerOk = false ∧ s.pins.resetHigh = false) := by decide

/-- A power-on reset, a pin reset with RETAIN low, one without a configuration, one entered from HALTED. -/
theorem witness_PowerOnAndPinResetLoad :
    let s : State := { runT 0 with runState := .reset, powerLost := true }
    s.runState = .reset ∧ s.powerLost = true ∧ ({ s with config := none } : State).config = none
      ∧ ({ s with haltedAtEntry := true } : State).haltedAtEntry = true := by decide

theorem witness_RetainResetJoins :
    let s : State := { runT 0 with runState := .reset }
    s.runState = .reset ∧ s.powerLost = false ∧ s.haltedAtEntry = false ∧ s.config = some cfgT := by decide

/-- Each header byte that passes, 32 and 33 hold entries, an image with no hold entry. -/
theorem witness_ConfigurationReadTakesOrHalts :
    State.reset.runState = .loading ∧ State.reset.loader.header.length < 4 ∧ (32 : Byte).toNat ≤ 32
      ∧ State.reset.loader.selected = true ∧ State.reset.loader.sent = [0x03, 0x00, 0x00]
      ∧ ¬(33 : Byte).toNat ≤ 32 ∧ (List.replicate 71 (0 : Byte)).length = 71 + 5 * (0 : Byte).toNat := by decide

/-- A pocket in use after the load, and a station whose pocket count leaves one out. -/
theorem witness_LoadedGeometryKeepsRelations :
    let image : List Byte := List.replicate 7 0 ++ [1] ++ List.replicate 32 0 ++ [3, 0, 0, 0, 0x0F, 0xFF, 0, 0]
    ((loadedConfig image 0).rules.get 0).kind ≠ .off ∧ (loadedConfig image 0).pocketCount ≤ (1 : Fin 4).val := by decide

theorem witness_ReceivedFramesReadBack :
    WellFormed (.readReceived upT idT 0x40 7 100 (some 0x2100583A714D)) = true
      ∧ frameOf (.readReceived upT idT 0x40 7 100 (some 0x2100583A714D)) ≠ none := by decide

/-- A running station keeps every law, and its step answers a state. -/
theorem witness_StepKeepsLaws :
    CapacityLaw (runT 0) ∧ TrackLaw (runT 0) ∧ QueueLaw (runT 0) ∧ DriveLaw (runT 0) ∧ RunLaw (runT 0)
      ∧ ConditionLaw (runT 0) ∧ PocketLaw (runT 0) ∧ ∃ t, step (runT 0) = .next t := by
  refine ⟨⟨by decide, by decide, by decide, by decide, by decide, by decide⟩, ⟨by decide, ?_, ?_⟩, ?_, ?_, ?_, ?_, ?_,
    ⟨_, rfl⟩⟩
  · intro id a j h
    cases h
  · intro r h
    cases h
  · refine ⟨by decide, by decide, by decide, by decide, by decide, ?_⟩
    rintro ⟨q, hq, _⟩
    cases hq
  · intro k
    refine ⟨?_, ?_, ?_⟩
    · revert k
      decide
    · revert k
      decide
    · intro h
      exact absurd (by revert k; decide) h
  · refine ⟨by decide, by decide, by decide, by decide, by decide, by decide, fun h => absurd rfl h, by decide⟩
  · exact ⟨by decide, by decide, by decide, by decide⟩
  · intro _
    exact ⟨by decide, by decide, by decide⟩

end Sys2Proof.Tests
end

section
/-! PROOF. Positions and windows in the numbers of R3 and R4. -/

namespace Sys2Proof.Machine

/-- The forward difference of R3 as a number: what is left of b - a after the wrap at 65536. -/
theorem forward_eq (a b : Pos) : forward a b = (b.toNat + 65536 - a.toNat) % 65536 := by
  have ha := a.isLt
  rw [forward, BitVec.toNat_sub]
  congr 1
  omega

theorem isAfter_iff (a b : Pos) : isAfter b a = true ↔ 1 ≤ forward a b ∧ forward a b ≤ 32767 := by
  simp [isAfter]

theorem atOrAfter_iff (a b : Pos) : atOrAfter b a = true ↔ forward a b ≤ 32767 := by
  simp [atOrAfter]

theorem inWindow_iff (x y c : Pos) : inWindow x y c = true ↔ forward x c ≤ forward x y := by
  simp [inWindow]

theorem isAfter_eq_false_iff (a b : Pos) : isAfter b a = false ↔ forward a b = 0 ∨ 32768 ≤ forward a b := by
  rw [Bool.eq_false_iff, ne_eq, isAfter_iff]
  omega

theorem forward_eq_zero_iff (a b : Pos) : forward a b = 0 ↔ b = a := by
  have ha := a.isLt
  have hb := b.isLt
  rw [forward_eq, BitVec.toNat_eq]
  omega

/-- The two forward differences of two positions make up one turn of the count. -/
theorem forward_add_forward (a b : Pos) (h : a ≠ b) : forward a b + forward b a = 65536 := by
  have ha := a.isLt
  have hb := b.isLt
  have hab : a.toNat ≠ b.toNat := fun h' => h (BitVec.eq_of_toNat_eq h')
  rw [forward_eq, forward_eq]
  omega

theorem eq_add_half_iff (a b : Pos) : b = a + 32768 ↔ forward a b = 32768 := by
  have ha := a.isLt
  have hb := b.isLt
  rw [forward_eq, BitVec.toNat_eq, BitVec.toNat_add, show (32768 : Pos).toNat = 32768 from rfl]
  omega

theorem isAfter_swap_iff (a b : Pos) : isAfter a b = true ↔ 32769 ≤ forward a b := by
  by_cases h : a = b
  · have hz : forward a b = 0 := (forward_eq_zero_iff a b).mpr h.symm
    have hz' : forward b a = 0 := (forward_eq_zero_iff b a).mpr h
    rw [isAfter_iff]
    omega
  · have hsum := forward_add_forward a b h
    have hpos : forward a b ≠ 0 := fun h' => h ((forward_eq_zero_iff a b).mp h').symm
    have hpos' : forward b a ≠ 0 := fun h' => h ((forward_eq_zero_iff b a).mp h')
    rw [isAfter_iff]
    omega

/-- Two positions are incomparable exactly half a turn apart. -/
theorem incomparable_iff (a b : Pos) :
    (a ≠ b ∧ isAfter b a = false ∧ isAfter a b = false) ↔ b = a + 32768 := by
  have hne : a ≠ b ↔ forward a b ≠ 0 := by rw [ne_eq, ne_eq, forward_eq_zero_iff, eq_comm]
  have hswap : isAfter a b = false ↔ ¬32769 ≤ forward a b := by rw [Bool.eq_false_iff, ne_eq, isAfter_swap_iff]
  rw [hne, isAfter_eq_false_iff, hswap, eq_add_half_iff]
  omega

theorem comparison_by_forward (a b : Pos) :
    (isAfter b a = true ↔ 1 ≤ forward a b ∧ forward a b ≤ 32767)
      ∧ (atOrAfter b a = true ↔ forward a b ≤ 32767)
      ∧ (isAfter a b = true ↔ 32769 ≤ forward a b)
      ∧ (isAfter b a = true → isAfter a b = false)
      ∧ ((a ≠ b ∧ isAfter b a = false ∧ isAfter a b = false) ↔ b = a + 32768) := by
  refine ⟨isAfter_iff a b, atOrAfter_iff a b, isAfter_swap_iff a b, fun h => ?_, incomparable_iff a b⟩
  rw [isAfter_iff] at h
  rw [Bool.eq_false_iff, ne_eq, isAfter_swap_iff]
  omega

theorem window_ends (x y : Pos) : inWindow x y x = true ∧ inWindow x y y = true := by
  have h0 : forward x x = 0 := (forward_eq_zero_iff x x).mpr rfl
  exact ⟨(inWindow_iff x y x).mpr (by omega), (inWindow_iff x y y).mpr le_rfl⟩

theorem inWindow_point_iff (x c : Pos) : inWindow x x c = true ↔ c = x := by
  rw [inWindow_iff, (forward_eq_zero_iff x x).mpr rfl, Nat.le_zero, forward_eq_zero_iff]

/-- Settles O4: both halves are read off the forward difference. -/
theorem positionsAndWindows : Obligations.PositionsAndWindows := by
  unfold Obligations.PositionsAndWindows
  simp only [← forward_eq]
  exact ⟨comparison_by_forward, fun x y c =>
    ⟨inWindow_iff x y c, (window_ends x y).1, (window_ends x y).2, inWindow_point_iff x c⟩⟩

end Sys2Proof.Machine
end

section
/-! PROOF. The Tach Unit: edges, stalls and the fire advance (R1, R9 to R15). -/

namespace Sys2Proof.Machine

theorem execTachEdge_of_counting (s : State) (h : s.runState ≠ .reset) :
    execTachEdge s = .next { s with tach := s.tach.edge } := by
  simp [execTachEdge, h]

theorem execTachEdge_in_reset (s : State) (h : s.runState = .reset) : execTachEdge s = .next s := by
  simp [execTachEdge, h]

theorem execTachStall_of_saturated (s : State) (h : s.runState ≠ .reset) (he : s.tach.elapsed = 65535) :
    execTachStall s = .next { s with tach := s.tach.stall } := by
  simp [execTachStall, h, he]

theorem execTachStall_in_reset (s : State) (h : s.runState = .reset) : execTachStall s = .next s := by
  simp [execTachStall, h]

/-- A stall is taken only at the saturated elapsed-time counter (R11). -/
theorem execTachStall_of_unsaturated (s : State) (h : s.tach.elapsed ≠ 65535) : execTachStall s = .next s :=
  if_neg fun hs => h hs.2

/-- Settles O5, by the run state: the edge and the stall are TachUnit.edge and TachUnit.stall outside RESET. -/
theorem tachEdgeAndStall : Obligations.TachEdgeAndStall := by
  unfold Obligations.TachEdgeAndStall
  intro s
  refine ⟨fun h => ?edge, fun h he => ?stall, fun h => ?reset⟩
  case edge => exact execTachEdge_of_counting s h
  case stall => exact execTachStall_of_saturated s h he
  case reset => exact ⟨execTachEdge_in_reset s h, execTachStall_in_reset s h⟩

/-- The bound by ADV_MAX keeps the advance within a word, so no bits are lost. -/
theorem fireAdvance_toNat (p8 latency advMax : Word) :
    (fireAdvance p8 latency advMax).toNat = min advMax.toNat ((8 * latency.toNat) ⌈/⌉ p8.toNat) := by
  have hlt := advMax.isLt
  rw [fireAdvance, BitVec.toNat_ofNat, Nat.ceilDiv_eq_add_pred_div, Nat.mod_eq_of_lt (by omega)]

/-- Settles O6: the quotient rounded up is the least count that covers the latency; with P8 saturated its values are
computed. -/
theorem fireAdvanceCoversLatency : Obligations.FireAdvanceCoversLatency := by
  unfold Obligations.FireAdvanceCoversLatency
  intro p8 latency advMax hp8
  have hpos : 0 < p8.toNat := Nat.pos_of_ne_zero fun h => hp8 (BitVec.eq_of_toNat_eq h)
  have least (m : Nat) : (8 * latency.toNat) ⌈/⌉ p8.toNat ≤ m ↔ 8 * latency.toNat ≤ m * p8.toNat := by
    rw [ceilDiv_le_iff_le_mul hpos, Nat.mul_comm m]
  refine ⟨⟨(8 * latency.toNat) ⌈/⌉ p8.toNat, ?covers, fun m => (least m).mpr, fireAdvance_toNat p8 latency advMax⟩, ?saturated⟩
  case covers => exact (least _).mp le_rfl
  case saturated =>
    rintro rfl
    rw [fireAdvance_toNat, Nat.ceilDiv_eq_add_pred_div, show (65535 : Word).toNat = 65535 from rfl]
    refine ⟨fun h => ?_, fun h1 h2 => ?_, fun h1 h2 => ?_⟩
    · simp [h]
    · congr 1
      omega
    · congr 1
      omega

end Sys2Proof.Machine
end

section
/-! PROOF. The step: the front command, or one microsecond of the timebase (log 1, log 2). -/

namespace Sys2Proof.Machine

theorem step_of_pending (s : State) (c : Instr) (cs : List Instr) (h : s.pending = c :: cs) :
    step s = exec c { s with pending := cs } := by
  simp [step, h]

theorem step_of_idle (s : State) (h : s.pending = []) : step s = .next s.tick := by
  simp [step, h]

theorem satInc_word (x : Word) : satInc x = if x = 65535 then 65535 else x + 1 := by
  unfold satInc
  by_cases h : x = 65535
  · subst h
    rfl
  · exact (if_neg h).trans (if_neg h).symm

/-- Settles O1, by whether a command waits, and for a tick by the run state. -/
theorem stepRunsFrontCommandOrTicks : Obligations.StepRunsFrontCommandOrTicks := by
  unfold Obligations.StepRunsFrontCommandOrTicks
  refine ⟨step_of_pending, fun s hidle => ⟨fun hr => ?reset, fun hr => ?tick⟩⟩
  case reset => rw [step_of_idle s hidle, State.tick, if_pos hr]
  case tick =>
    rw [step_of_idle s hidle, State.tick, if_neg hr, satInc_word]
    rfl

end Sys2Proof.Machine
end

section
/-! PROOF. The state at the release of a reset: the laws hold in it, and a power-on or pin reset leads to it (R164 to R166,
R180). -/

namespace Sys2Proof.Machine

theorem State.reset_capacityLaw : CapacityLaw State.reset :=
  ⟨by decide, by decide, by decide, by decide, by decide, by decide⟩

/-- No entry, no BLOCKED record and no window: the law has nothing to hold of. -/
theorem State.reset_trackLaw : TrackLaw State.reset := by
  refine ⟨List.nodup_nil, fun id a j h => ?_, fun r h => ?_⟩
  · cases h
  · cases h

theorem State.reset_queueLaw : QueueLaw State.reset := by
  refine ⟨List.Pairwise.nil, by decide, by decide, by decide, by decide, ?_⟩
  rintro ⟨q, hq, _⟩
  cases hq

theorem Pocket.atReset_driveAgrees : Pocket.atReset.DriveAgrees := by
  refine ⟨fun o ho => ?_, fun o ho => ?_, fun h => absurd rfl h⟩
  · cases ho
  · cases ho

theorem State.reset_pocket (k : Fin 4) : State.reset.pocket k = Pocket.atReset := by
  match k with
  | 0 => rfl
  | 1 => rfl
  | 2 => rfl
  | 3 => rfl

theorem State.reset_driveLaw : DriveLaw State.reset := fun k => by
  rw [State.reset_pocket]
  exact Pocket.atReset_driveAgrees

theorem State.reset_idle : State.reset.Idle := by
  refine ⟨rfl, rfl, rfl, fun k => ?_, fun q hq => ?_⟩
  · rw [State.reset_pocket]
    exact ⟨rfl, rfl⟩
  · cases hq

theorem State.reset_runLaw : RunLaw State.reset :=
  ⟨by decide, by decide, by decide, by decide, by decide, by decide, fun _ => State.reset_idle, by decide⟩

theorem State.reset_conditionLaw : ConditionLaw State.reset := ⟨rfl, rfl, rfl, by decide⟩

/-- The station is LOADING, in which no pocket state is formed yet. -/
theorem State.reset_pocketLaw : PocketLaw State.reset := fun h => absurd h (by decide)

/-- Settles O60: each law by its own lemma, and the stated values as State.reset gives them. -/
theorem lawsHoldAtReset : Obligations.LawsHoldAtReset := by
  unfold Obligations.LawsHoldAtReset
  exact ⟨State.reset_capacityLaw, State.reset_trackLaw, State.reset_queueLaw, State.reset_driveLaw, State.reset_runLaw,
    State.reset_conditionLaw, State.reset_pocketLaw, rfl, rfl, fun k => by rw [State.reset_pocket]; rfl, rfl, rfl, rfl, rfl⟩

/-- A release with POWER_OK lost, RETAIN low, no configuration, or after HALTED ends no retain reset (R164). -/
theorem resetKind_eq (s : State) (retain : Bool)
    (h : s.powerLost = true ∨ retain = false ∨ s.config = none ∨ s.haltedAtEntry = true) :
    resetKind s retain = if s.powerLost then .powerOn else .pin := by
  unfold resetKind
  by_cases hp : s.powerLost = true
  · simp [hp]
  · have hr : (retain && s.config.isSome && !s.haltedAtEntry) = false := by
      rcases h with h | h | h | h
      · exact absurd h hp
      · simp [h]
      · simp [h]
      · simp [h]
    simp [hp, hr]

theorem execResetRelease_of_not_retained (s : State) (straps : Straps) (retain : Bool) (hr : s.runState = .reset)
    (h : s.powerLost = true ∨ retain = false ∨ s.config = none ∨ s.haltedAtEntry = true) :
    execResetRelease straps retain s =
      .next (s.fullInit (if s.powerLost = true ∧ s.pins.powerOk = true then s.straps else straps)) := by
  unfold execResetRelease
  rw [if_pos hr, resetKind_eq s retain h]
  by_cases hp : s.powerLost = true
  · simp [hp, strapsAfter]
  · simp [hp, strapsAfter]

/-- Settles O50: the release ends a power-on or a pin reset, and State.fullInit spells out the initial values. -/
theorem powerOnAndPinResetLoad : Obligations.PowerOnAndPinResetLoad := by
  unfold Obligations.PowerOnAndPinResetLoad
  intro s straps retain hr h
  exact execResetRelease_of_not_retained s straps retain hr h

end Sys2Proof.Machine
end

section
/-! PROOF. The configuration an image gives (R172 to R174): its fields, its pocket rules, and the relations that follow from
them (R8). -/

namespace Sys2Proof.Machine

/-! ### Bytes, words and ranges of the image -/

/-- A byte appended at the low end counts 256 times less than what stands before it. -/
theorem append_byte_toNat {n : Nat} (x : BitVec n) (y : Byte) : (x ++ y).toNat = 256 * x.toNat + y.toNat := by
  rw [BitVec.toNat_append, ← Nat.shiftLeft_add_eq_or_of_lt y.isLt, Nat.shiftLeft_eq]
  omega

theorem imageByte_toNat (image : List Byte) (n : Nat) : (imageByte image n).toNat = fieldByte image n := rfl

theorem imageWord_toNat (image : List Byte) (n : Nat) : (imageWord image n).toNat = fieldWord image n :=
  append_byte_toNat (imageByte image n) (imageByte image (n + 1))

theorem fieldByte_lt (image : List Byte) (n : Nat) : fieldByte image n < 256 := (imageByte image n).isLt

theorem bound_eq_nearest (lo hi v : Nat) (h : lo ≤ hi) : bound lo hi v = nearest lo hi v := by
  unfold bound nearest
  split
  · omega
  · split <;> omega

theorem nearest_within {lo hi v x : Nat} (hx : x = nearest lo hi v) (h : lo ≤ hi) : lo ≤ x ∧ x ≤ hi := by
  rw [hx, nearest]
  omega

theorem bound_ne_iff_outside (lo hi v : Nat) (h : lo ≤ hi) : bound lo hi v ≠ v ↔ Outside lo hi v := by
  rw [bound_eq_nearest lo hi v h]
  unfold nearest Outside
  omega

theorem boundedWord_eq (image : List Byte) (lo hi n : Nat) (h : lo ≤ hi) :
    bound lo hi (imageWord image n).toNat = nearest lo hi (fieldWord image n) := by
  rw [bound_eq_nearest lo hi _ h, imageWord_toNat]

/-- A field whose range fits in a word is held as the value of its range nearest to it. -/
theorem boundedWord_toNat (image : List Byte) (lo hi n : Nat) (h : lo ≤ hi) (hw : hi < 65536) :
    (BitVec.ofNat 16 (bound lo hi (imageWord image n).toNat)).toNat = nearest lo hi (fieldWord image n) := by
  rw [boundedWord_eq image lo hi n h, BitVec.toNat_ofNat]
  refine Nat.mod_eq_of_lt ?_
  unfold nearest
  omega

theorem boundedByte_eq (image : List Byte) (lo hi n : Nat) (h : lo ≤ hi) :
    bound lo hi (imageByte image n).toNat = nearest lo hi (fieldByte image n) :=
  bound_eq_nearest lo hi _ h

theorem byteAsWord_toNat (image : List Byte) (n : Nat) :
    (BitVec.ofNat 16 (imageByte image n).toNat).toNat = fieldByte image n := by
  have hlt := fieldByte_lt image n
  rw [imageByte_toNat, BitVec.toNat_ofNat, Nat.mod_eq_of_lt (by omega)]

/-- An account of the hold list: five bytes, the high nibble of the first left out. -/
theorem holdEntry_toNat (image : List Byte) (j : Nat) :
    (holdEntry image j).toNat =
      (fieldByte image (75 + 5 * j) % 16) * 4294967296 + fieldByte image (76 + 5 * j) * 16777216
        + fieldByte image (77 + 5 * j) * 65536 + fieldByte image (78 + 5 * j) * 256 + fieldByte image (79 + 5 * j) := by
  have h1 := fieldByte_lt image (76 + 5 * j)
  have h2 := fieldByte_lt image (77 + 5 * j)
  have h3 := fieldByte_lt image (78 + 5 * j)
  have h4 := fieldByte_lt image (79 + 5 * j)
  simp only [holdEntry, BitVec.extractLsb'_toNat, append_byte_toNat, imageByte_toNat, Nat.shiftRight_zero]
  omega

/-! ### The pocket rules -/

theorem exists_pocket_iff (p : Fin 4 → Prop) : (∃ k, p k) ↔ p 0 ∨ p 1 ∨ p 2 ∨ p 3 := by
  simp [Fin.exists_fin_succ]

theorem forall_pocket_iff (p : Fin 4 → Prop) : (∀ k, p k) ↔ p 0 ∧ p 1 ∧ p 2 ∧ p 3 := by
  simp [Fin.forall_fin_succ]

/-- The kind that each kind code names, OFF for those that name none. -/
theorem kindOfCode_getD_iff (b : Byte) :
    ((kindOfCode b).getD .off = .off ↔ b.toNat = 0 ∨ 5 ≤ b.toNat)
      ∧ ((kindOfCode b).getD .off = .classRange ↔ b.toNat = 1) ∧ ((kindOfCode b).getD .off = .hold ↔ b.toNat = 2)
      ∧ ((kindOfCode b).getD .off = .noRead ↔ b.toNat = 3) ∧ ((kindOfCode b).getD .off = .suspect ↔ b.toNat = 4) := by
  unfold kindOfCode
  split
  case h_6 h0 h1 h2 h3 h4 =>
    simp only [imp_false] at h0 h1 h2 h3 h4
    simp only [Option.getD_none, true_iff, reduceCtorEq, false_iff]
    omega
  all_goals simp [*]

theorem pocketCounted_iff (image : List Byte) (k : Fin 4) : k.val < pocketCountOf image ↔ PocketCounted image k := by
  rw [pocketCountOf, boundedByte_eq image 0 4 7 (by omega), PocketCounted, nearest, Nat.zero_max]

theorem ruleInUse_iff (image : List Byte) (k : Fin 4) : ruleInUse image k.val = true ↔ RuleBounded image k := by
  simp only [ruleInUse, Bool.and_eq_true, decide_eq_true_eq, and_assoc]
  exact and_congr_left' (pocketCounted_iff image k)

/-- A rule in use has its gate distance brought into its range (R172). -/
theorem boundedRule_gate (image : List Byte) (k : Fin 4) (h : RuleBounded image k) :
    (boundedRule image k.val).gate.toNat = nearest 1 4095 (fieldWord image (44 + 8 * k.val)) := by
  have hoff : 40 + 8 * k.val + 4 = 44 + 8 * k.val := by omega
  simp only [boundedRule, (ruleInUse_iff image k).mpr h, if_true, hoff]
  exact boundedWord_toNat image 1 4095 _ (by omega) (by omega)

theorem boundedRule_class (image : List Byte) (k : Fin 4) :
    (boundedRule image k.val).classLow = image.getD (42 + 8 * k.val) 0
      ∧ (boundedRule image k.val).classHigh = image.getD (43 + 8 * k.val) 0 := by
  have hlow : 40 + 8 * k.val + 2 = 42 + 8 * k.val := by omega
  have hhigh : 40 + 8 * k.val + 3 = 43 + 8 * k.val := by omega
  simp only [boundedRule, hlow, hhigh, imageByte, and_self]

/-- Step 3 of R173. A kind code that names no kind switches off by itself; the other two causes are those of a rule in use,
whose gate distance is bounded. -/
theorem ruleDisabled_iff (image : List Byte) (k : Fin 4) : ruleDisabled image k.val = true ↔ SwitchedOff image k := by
  obtain ⟨hlow, hhigh⟩ := boundedRule_class image k
  have hcode : imageByte image (40 + 8 * k.val) = 0 ↔ fieldByte image (40 + 8 * k.val) = 0 := BitVec.toNat_eq
  have hclass : (boundedRule image k.val).classHigh < (boundedRule image k.val).classLow
      ↔ fieldByte image (43 + 8 * k.val) < fieldByte image (42 + 8 * k.val) := by
    rw [hlow, hhigh]
    exact BitVec.lt_def
  simp only [ruleDisabled, Bool.and_eq_true, Bool.or_eq_true, decide_eq_true_eq, bne_iff_ne, ne_eq]
  simp only [SwitchedOff, hcode, pocketCounted_iff, hclass, imageByte_toNat, imageWord_toNat,
    bound_eq_nearest 1 2047 _ (by omega : 1 ≤ 2047)]
  by_cases hb : RuleBounded image k
  · have h0 : fieldByte image (40 + 8 * k.val) ≠ 0 := Nat.one_le_iff_ne_zero.mp hb.2.1
    rw [boundedRule_gate image k hb]
    simp only [hb, hb.1, h0, not_false_eq_true, true_and, or_assoc]
  · have hout : PocketCounted image k → ¬fieldByte image (40 + 8 * k.val) = 0 → 5 ≤ fieldByte image (40 + 8 * k.val) := by
      intro hc h0
      by_contra h5
      exact hb ⟨hc, by omega, by omega⟩
    constructor
    · rintro ⟨⟨hc, h0⟩, _⟩
      exact ⟨hc, .inl (hout hc h0)⟩
    · rintro ⟨hc, h5 | ⟨hbounded, _⟩⟩
      · exact ⟨⟨hc, by omega⟩, .inl (.inl h5)⟩
      · exact absurd hbounded hb

/-- The rule loaded is the bounded one but for its kind. -/
theorem loadedRule_fields (image : List Byte) (k : Nat) :
    loadedRule image k = { boundedRule image k with kind := (loadedRule image k).kind } := by
  unfold loadedRule
  split <;> rfl

theorem loadedRule_kind_of_switchedOff (image : List Byte) (k : Fin 4) (h : SwitchedOff image k) :
    (loadedRule image k.val).kind = .off := by
  rw [loadedRule, if_pos ((ruleDisabled_iff image k).mpr h)]

theorem loadedRule_kind_of_not_counted (image : List Byte) (k : Fin 4) (h : ¬PocketCounted image k) :
    (loadedRule image k.val).kind = .off := by
  have hs : ¬ruleDisabled image k.val = true := fun hd => h ((ruleDisabled_iff image k).mp hd).1
  rw [loadedRule, if_neg hs, boundedRule, if_neg (fun hc => h ((pocketCounted_iff image k).mp hc))]

theorem loadedRule_kind_of_in_use (image : List Byte) (k : Fin 4) (hc : PocketCounted image k)
    (hs : ¬SwitchedOff image k) :
    (loadedRule image k.val).kind = (kindOfCode (imageByte image (40 + 8 * k.val))).getD .off := by
  rw [loadedRule, if_neg (fun hd => hs ((ruleDisabled_iff image k).mp hd)), boundedRule,
    if_pos ((pocketCounted_iff image k).mpr hc)]

theorem loadedRule_kind_eq_off_iff (image : List Byte) (k : Fin 4) :
    (loadedRule image k.val).kind = .off
      ↔ ¬PocketCounted image k ∨ fieldByte image (40 + 8 * k.val) = 0 ∨ SwitchedOff image k := by
  by_cases hc : PocketCounted image k
  · by_cases hs : SwitchedOff image k
    · simp only [loadedRule_kind_of_switchedOff image k hs, hs, or_true]
    · have h5 : ¬5 ≤ fieldByte image (40 + 8 * k.val) := fun h => hs ⟨hc, .inl h⟩
      rw [loadedRule_kind_of_in_use image k hc hs, (kindOfCode_getD_iff _).1, imageByte_toNat]
      simp only [hc, hs, h5, not_true_eq_false, false_or, or_false]
  · simp only [loadedRule_kind_of_not_counted image k hc, hc, not_false_eq_true, true_or]

/-- A rule of a kind other than OFF is counted, not switched off, and its kind code names its kind. -/
theorem loadedRule_of_kind_ne_off (image : List Byte) (k : Fin 4) (h : (loadedRule image k.val).kind ≠ .off) :
    RuleBounded image k
      ∧ (loadedRule image k.val).kind = (kindOfCode (imageByte image (40 + 8 * k.val))).getD .off := by
  rw [ne_eq, loadedRule_kind_eq_off_iff, not_or, not_or, not_not] at h
  obtain ⟨hc, h0, hs⟩ := h
  have h5 : ¬5 ≤ fieldByte image (40 + 8 * k.val) := fun h => hs ⟨hc, .inl h⟩
  exact ⟨⟨hc, by omega, by omega⟩, loadedRule_kind_of_in_use image k hc hs⟩

theorem loadedConfig_rule (image : List Byte) (crc : Word) (k : Fin 4) :
    (loadedConfig image crc).rules.get k = loadedRule image k.val := by
  match k with
  | 0 => rfl
  | 1 => rfl
  | 2 => rfl
  | 3 => rfl

theorem loadedConfig_ruleTaken (image : List Byte) (crc : Word) (k : Fin 4) :
    RuleTaken image (loadedConfig image crc) k := by
  obtain ⟨_, hclass, hhold, hnoRead, hsuspect⟩ := kindOfCode_getD_iff (imageByte image (40 + 8 * k.val))
  have hexcl : 40 + 8 * k.val + 1 = 41 + 8 * k.val := by omega
  have htally : 40 + 8 * k.val + 6 = 46 + 8 * k.val := by omega
  unfold RuleTaken
  rw [loadedConfig_rule]
  refine ⟨loadedRule_kind_eq_off_iff image k, fun hk => ?inUse, ?_, ?_, ?_, ?_⟩
  case inUse =>
    obtain ⟨hb, hkind⟩ := loadedRule_of_kind_ne_off image k hk
    refine ⟨hkind ▸ hclass, hkind ▸ hhold, hkind ▸ hnoRead, hkind ▸ hsuspect, ?_⟩
    rw [loadedRule_fields]
    exact boundedRule_gate image k hb
  all_goals rw [loadedRule_fields]
  · simp only [boundedRule, hexcl, imageByte]
  · exact (boundedRule_class image k).1
  · exact (boundedRule_class image k).2
  · simp only [boundedRule, htally, imageWord_toNat]

/-! ### The RETIRE floor (step 4 of R173) -/

/-- The largest gate distance of a list stays below a limit exactly when every one of them does. -/
theorem foldl_gate_le_iff (gates : List Nat) (start : Option Nat) (ext x : Nat) :
    (∀ g ∈ gates.foldl (fun m g => some (max (m.getD 0) g)) start, g + ext ≤ x)
      ↔ (∀ g ∈ start, g + ext ≤ x) ∧ ∀ g ∈ gates, g + ext ≤ x := by
  induction gates generalizing start with
  | nil => simp
  | cons g gs ih =>
    have hmax : max (start.getD 0) g + ext ≤ x ↔ (∀ y ∈ start, y + ext ≤ x) ∧ g + ext ≤ x := by
      cases start with
      | none => simp
      | some y =>
        simp only [Option.getD_some, Option.mem_def, Option.some.injEq, forall_eq']
        omega
    rw [List.foldl_cons, ih, List.forall_mem_cons, ← and_assoc, ← hmax]
    simp

theorem retireFloor_le_iff (rules : List PocketRule) (relMargin confExt scanTail x : Nat) :
    retireFloor rules relMargin confExt scanTail ≤ x
      ↔ scanTail ≤ x ∧ ∀ r ∈ rules, r.kind ≠ .off → r.gate.toNat + relMargin + confExt ≤ x := by
  have hfold := foldl_gate_le_iff (rules.filterMap floorGate) none (relMargin + confExt) x
  have hgates : (∀ g ∈ rules.filterMap floorGate, g + (relMargin + confExt) ≤ x)
      ↔ ∀ r ∈ rules, r.kind ≠ .off → r.gate.toNat + relMargin + confExt ≤ x := by
    simp only [List.mem_filterMap, floorGate, forall_exists_index, and_imp, Nat.add_assoc]
    constructor
    · exact fun h r hr hk => h _ r hr (if_neg hk)
    · intro h g r hr hg
      by_cases hk : r.kind = .off
      · simp [hk] at hg
      · rw [if_neg hk] at hg
        cases hg
        exact h r hr hk
  rw [hgates] at hfold
  unfold retireFloor
  split
  · rename_i g hg
    rw [hg] at hfold
    simp only [Option.mem_def, Option.some.injEq, forall_eq', reduceCtorEq, false_imp_iff, implies_true, true_and] at hfold
    rw [← hfold]
    omega
  · rename_i hg
    rw [hg] at hfold
    simp only [Option.mem_def, reduceCtorEq, false_imp_iff, implies_true, true_and, true_iff] at hfold
    exact (and_iff_left hfold).symm

theorem retireFor_le_iff (c : StationConfig) (k : Fin 4) (x : Nat) :
    retireFor c k ≤ x
      ↔ ((c.rules.get k).kind ≠ .off → (c.rules.get k).gate.toNat + c.relMargin.toNat + c.confExt.toNat ≤ x) := by
  unfold retireFor
  split
  · rename_i h
    simp [h]
  · rename_i h
    simp [h]

theorem floorOf_le_iff (c : StationConfig) (x : Nat) :
    floorOf c ≤ x ↔ c.scanTail.toNat ≤ x ∧ ∀ k, retireFor c k ≤ x := by
  rw [forall_pocket_iff, floorOf]
  omega

/-- The floor computed from the list of the four rules is the floor of a configuration that holds them. -/
theorem retireFloor_eq_floorOf (c : StationConfig) :
    retireFloor [c.rules.get 0, c.rules.get 1, c.rules.get 2, c.rules.get 3] c.relMargin.toNat c.confExt.toNat
      c.scanTail.toNat = floorOf c := by
  refine eq_of_forall_ge_iff fun x => ?_
  simp only [retireFloor_le_iff, floorOf_le_iff, forall_pocket_iff, retireFor_le_iff, List.forall_mem_cons,
    List.not_mem_nil, false_imp_iff, implies_true, and_true]

end Sys2Proof.Machine
end

section
/-! PROOF. Every loaded configuration is the image's, bounded and related (R8, R172 to R174). -/

namespace Sys2Proof.Machine

theorem loadedConfig_lenMax_toNat (image : List Byte) (crc : Word) :
    (loadedConfig image crc).lenMax.toNat = nearest 1 4094 (fieldWord image 12) :=
  boundedWord_toNat image 1 4094 12 (by omega) (by omega)

theorem loadedConfig_lenMin_toNat (image : List Byte) (crc : Word) :
    (loadedConfig image crc).lenMin.toNat
      = min (nearest 1 4094 (fieldWord image 10)) (loadedConfig image crc).lenMax.toNat := by
  rw [loadedConfig_lenMax_toNat, ← imageWord_toNat, ← imageWord_toNat, ← bound_eq_nearest 1 4094 _ (by omega),
    ← bound_eq_nearest 1 4094 _ (by omega)]
  refine (BitVec.toNat_ofNat _ _).trans (Nat.mod_eq_of_lt ?_)
  rw [bound_eq_nearest 1 4094 _ (by omega), nearest]
  omega

theorem loadedConfig_jamLen_toNat (image : List Byte) (crc : Word) :
    (loadedConfig image crc).jamLen.toNat
      = max (nearest 1 4095 (fieldWord image 14)) ((loadedConfig image crc).lenMax.toNat + 1) := by
  rw [loadedConfig_lenMax_toNat, ← imageWord_toNat, ← imageWord_toNat, ← bound_eq_nearest 1 4094 _ (by omega),
    ← bound_eq_nearest 1 4095 _ (by omega)]
  refine (BitVec.toNat_ofNat _ _).trans (Nat.mod_eq_of_lt ?_)
  rw [bound_eq_nearest 1 4094 _ (by omega), bound_eq_nearest 1 4095 _ (by omega), nearest, nearest]
  omega

theorem loadedConfig_relMargin_toNat (image : List Byte) (crc : Word) :
    (loadedConfig image crc).relMargin.toNat = fieldByte image 37 := byteAsWord_toNat image 37

theorem loadedConfig_confExt_toNat (image : List Byte) (crc : Word) :
    (loadedConfig image crc).confExt.toNat = nearest 0 2047 (fieldWord image 38) :=
  boundedWord_toNat image 0 2047 38 (by omega) (by omega)

theorem loadedConfig_scanTail_toNat (image : List Byte) (crc : Word) :
    (loadedConfig image crc).scanTail.toNat = nearest 0 2047 (fieldWord image 25) :=
  boundedWord_toNat image 0 2047 25 (by omega) (by omega)

/-- The floor that the loading computes from the image is that of the configuration loaded. -/
theorem loadedConfig_floorOf (image : List Byte) (crc : Word) :
    retireFloor [loadedRule image 0, loadedRule image 1, loadedRule image 2, loadedRule image 3]
      (imageByte image 37).toNat (bound 0 2047 (imageWord image 38).toNat) (bound 0 2047 (imageWord image 25).toNat)
      = floorOf (loadedConfig image crc) := by
  rw [← retireFloor_eq_floorOf, loadedConfig_relMargin_toNat, loadedConfig_confExt_toNat, loadedConfig_scanTail_toNat,
    bound_eq_nearest 0 2047 _ (by omega), bound_eq_nearest 0 2047 _ (by omega), imageWord_toNat, imageWord_toNat]
  rfl

/-- A gate distance of 4095, REL_MARGIN 255 and CONF_EXT 2047 ask for less than RETIRE can hold. -/
theorem loadedConfig_floorOf_le (image : List Byte) (crc : Word) : floorOf (loadedConfig image crc) ≤ 8191 := by
  have hrel := fieldByte_lt image 37
  rw [floorOf_le_iff]
  simp only [retireFor_le_iff, loadedConfig_relMargin_toNat, loadedConfig_confExt_toNat, loadedConfig_scanTail_toNat,
    nearest]
  refine ⟨by omega, fun k hk => ?_⟩
  obtain ⟨_, hinUse, _⟩ := loadedConfig_ruleTaken image crc k
  obtain ⟨_, _, _, _, hgate⟩ := hinUse hk
  rw [hgate, nearest]
  omega

theorem loadedConfig_retire_toNat (image : List Byte) (crc : Word) :
    (loadedConfig image crc).retire.toNat
      = max (nearest 0 8191 (fieldWord image 18)) (floorOf (loadedConfig image crc)) := by
  have hfloor := loadedConfig_floorOf_le image crc
  rw [← loadedConfig_floorOf, ← imageWord_toNat, ← bound_eq_nearest 0 8191 _ (by omega)]
  refine (BitVec.toNat_ofNat _ _).trans (Nat.mod_eq_of_lt ?_)
  rw [loadedConfig_floorOf image crc, bound_eq_nearest 0 8191 _ (by omega), nearest]
  omega

theorem loadedConfig_alertMask_toNat (image : List Byte) (crc : Word) :
    (loadedConfig image crc).alertMask.toNat = fieldWord image 72 % 4096 := by
  refine (BitVec.toNat_and _ _).trans ?_
  rw [imageWord_toNat]
  exact Nat.and_two_pow_sub_one_eq_mod _ 12

theorem loadedConfig_alertMask_high (image : List Byte) (crc : Word) :
    (loadedConfig image crc).alertMask &&& 0xF000#16 = 0 := by
  refine (BitVec.and_assoc _ _ _).trans ?_
  exact BitVec.and_zero

theorem loadedConfig_holdList_length (image : List Byte) (crc : Word) :
    (loadedConfig image crc).holdList.length = fieldByte image 3 := by
  simp [loadedConfig, imageByte_toNat]

theorem loadedConfig_holdList_getD (image : List Byte) (crc : Word) (j : Nat) (h : j < fieldByte image 3) :
    (loadedConfig image crc).holdList.getD j 0 = holdEntry image j := by
  simp [loadedConfig, imageByte_toNat, List.getD_eq_getElem?_getD, h]

theorem loadedConfig_polarity (image : List Byte) (crc : Word) :
    (loadedConfig image crc).polarity = decide (1 ≤ fieldByte image 27) := by
  refine Bool.eq_iff_iff.mpr ?_
  rw [decide_eq_true_eq]
  refine beq_iff_eq.trans ?_
  rw [boundedByte_eq image 0 1 27 (by omega), nearest]
  omega

theorem loadedConfig_position_toNat (image : List Byte) (crc : Word) :
    (loadedConfig image crc).position.toNat = nearest 0 16383 (fieldWord image 4) := by
  refine (BitVec.toNat_ofNat _ _).trans ?_
  refine (congrArg (· % 2 ^ 14) (boundedWord_eq image 0 16383 4 (by omega))).trans (Nat.mod_eq_of_lt ?_)
  rw [nearest]
  omega

theorem loadedConfig_fieldsTaken (image : List Byte) (crc : Word) : FieldsTaken image (loadedConfig image crc) := by
  have word (lo hi n : Nat) (h : lo ≤ hi) (hw : hi < 65536) := boundedWord_toNat image lo hi n h hw
  have byte (lo hi n : Nat) (h : lo ≤ hi) := boundedByte_eq image lo hi n h
  exact ⟨loadedConfig_position_toNat image crc, rfl, rfl, byte 0 4 7 (by omega), word 1 255 8 (by omega) (by omega),
    loadedConfig_lenMin_toNat image crc, loadedConfig_lenMax_toNat image crc, loadedConfig_jamLen_toNat image crc,
    word 1 2047 16 (by omega) (by omega), loadedConfig_retire_toNat image crc, byte 0 5 20 (by omega),
    byte 1 4 21 (by omega), boundedWord_eq image 16 4095 22 (by omega), byte 1 15 24 (by omega),
    loadedConfig_scanTail_toNat image crc, loadedConfig_polarity image crc, word 100 20000 28 (by omega) (by omega), word 10 1000 30 (by omega) (by omega),
    word 10 1000 32 (by omega) (by omega), word 0 16383 34 (by omega) (by omega), byteAsWord_toNat image 36,
    loadedConfig_relMargin_toNat image crc, loadedConfig_confExt_toNat image crc, loadedConfig_alertMask_toNat image crc,
    byte 0 32 74 (by omega), loadedConfig_holdList_length image crc,
    fun j hj => (congrArg BitVec.toNat (loadedConfig_holdList_getD image crc j hj)).trans (holdEntry_toNat image j)⟩

/-! ### What follows from the fields and rules taken -/

/-- The relations of R8 for a pocket in use, from the fields and the rule taken alone. -/
theorem ruleRelations_of_taken (image : List Byte) (c : StationConfig) (k : Fin 4) (hf : FieldsTaken image c)
    (hr : RuleTaken image c k) (hk : (c.rules.get k).kind ≠ .off) :
    c.decideDist.toNat + c.advMax.toNat < (c.rules.get k).gate.toNat ∧ (c.rules.get k).gate.toNat ≤ 4095
      ∧ (c.rules.get k).gate.toNat + c.relMargin.toNat + c.confExt.toNat ≤ c.retire.toNat
      ∧ (c.rules.get k).classLow.toNat ≤ (c.rules.get k).classHigh.toNat := by
  obtain ⟨hoff, hinUse, _, hlow, hhigh, _⟩ := hr
  obtain ⟨-, -, -, -, hgate⟩ := hinUse hk
  obtain ⟨-, -, -, -, -, -, -, -, hdecide, hretire, -, -, -, -, -, -, -, -, -, -, hadv, -⟩ := hf
  have hfloor : retireFor c k ≤ c.retire.toNat := ((floorOf_le_iff c _).mp (hretire ▸ le_max_right _ _)).2 k
  have hclose := (retireFor_le_iff c k _).mp hfloor hk
  rw [ne_eq, hoff, not_or, not_or, not_not] at hk
  obtain ⟨hc, h0, hs⟩ := hk
  have h5 : ¬5 ≤ fieldByte image (40 + 8 * k.val) := fun h => hs ⟨hc, .inl h⟩
  have hb : RuleBounded image k := ⟨hc, by omega, by omega⟩
  have hkeep : ¬(fieldByte image (43 + 8 * k.val) < fieldByte image (42 + 8 * k.val)
      ∨ nearest 1 4095 (fieldWord image (44 + 8 * k.val)) ≤ nearest 1 2047 (fieldWord image 16) + fieldByte image 36) :=
    fun h => hs ⟨hc, .inr ⟨hb, h⟩⟩
  obtain ⟨hclass, hreach⟩ := not_or.mp hkeep
  refine ⟨by omega, ?_, hclose, ?_⟩
  · rw [hgate, nearest]
    omega
  · rw [hlow, hhigh]
    exact Nat.le_of_not_lt hclass

theorem rule_off_of_not_counted (image : List Byte) (c : StationConfig) (k : Fin 4) (hf : FieldsTaken image c)
    (hr : RuleTaken image c k) (hk : c.pocketCount ≤ k.val) : (c.rules.get k).kind = .off := by
  obtain ⟨hoff, _⟩ := hr
  obtain ⟨-, -, -, hcount, -⟩ := hf
  refine hoff.mpr (.inl fun hc => ?_)
  rw [PocketCounted] at hc
  rw [hcount, nearest] at hk
  omega

/-! ### CONFIG_CLAMPED and POCKET_DISABLED (R174) -/

theorem gateClamped_iff (image : List Byte) (k : Fin 4) :
    gateClamped image k.val = true ↔ RuleBounded image k ∧ Outside 1 4095 (fieldWord image (44 + 8 * k.val)) := by
  have hoff : 40 + 8 * k.val + 4 = 44 + 8 * k.val := by omega
  simp only [gateClamped, Bool.and_eq_true, bne_iff_ne, ruleInUse_iff, hoff,
    bound_ne_iff_outside 1 4095 _ (by omega : 1 ≤ 4095), imageWord_toNat]

theorem fieldsClamped_iff (image : List Byte) :
    fieldsClamped image = true ↔ ∃ x ∈ fieldRanges image, Outside x.1 x.2.1 x.2.2 := by
  have hranges : ∀ x ∈ fieldRanges image, x.1 ≤ x.2.1 := by simp [fieldRanges]
  simp only [fieldsClamped, List.any_eq_true, bne_iff_ne]
  exact exists_congr fun x => and_congr_right fun hx => bound_ne_iff_outside _ _ _ (hranges x hx)

theorem imageDisables_iff (image : List Byte) : imageDisables image = true ↔ ∃ k, SwitchedOff image k := by
  simp only [imageDisables, Bool.or_eq_true, exists_pocket_iff, ← ruleDisabled_iff, or_assoc]
  rfl

/-- The replacements of R172 are those of the ranges and of the gate distances; those of steps 1, 2 and 4 of R173 are seen
in the fields of the configuration loaded. -/
theorem imageClamped_iff (image : List Byte) (crc : Word) :
    imageClamped image = true ↔ SomeFieldClamped image (loadedConfig image crc) := by
  have hgates : gateClamped image 0 = true ∨ gateClamped image 1 = true ∨ gateClamped image 2 = true
        ∨ gateClamped image 3 = true
      ↔ ∃ k : Fin 4, RuleBounded image k ∧ Outside 1 4095 (fieldWord image (44 + 8 * k.val)) := by
    simp only [← gateClamped_iff, exists_pocket_iff]
    rfl
  have hstep1 : bound 1 4094 (imageWord image 12).toNat < bound 1 4094 (imageWord image 10).toNat
      ↔ (loadedConfig image crc).lenMax.toNat < nearest 1 4094 (fieldWord image 10) := by
    rw [loadedConfig_lenMax_toNat, boundedWord_eq image 1 4094 12 (by omega), boundedWord_eq image 1 4094 10 (by omega)]
  have hstep2 : bound 1 4095 (imageWord image 14).toNat < bound 1 4094 (imageWord image 12).toNat + 1
      ↔ nearest 1 4095 (fieldWord image 14) ≤ (loadedConfig image crc).lenMax.toNat := by
    rw [loadedConfig_lenMax_toNat, boundedWord_eq image 1 4094 12 (by omega), boundedWord_eq image 1 4095 14 (by omega),
      Nat.lt_add_one_iff]
  simp only [imageClamped, SomeFieldClamped, Bool.or_eq_true, decide_eq_true_eq, fieldsClamped_iff, hstep1, hstep2,
    boundedWord_eq image 0 8191 18 (by omega), loadedConfig_floorOf image crc, ← hgates]
  simp only [fieldRanges, List.exists_mem_cons_iff, List.not_mem_nil, false_and, exists_false, or_false, or_assoc,
    imageByte_toNat, imageWord_toNat]

/-- Settles O53. The fields and the rules of the image are taken; every range and relation follows from that. -/
theorem loadedGeometryKeepsRelations : Obligations.LoadedGeometryKeepsRelations := by
  unfold Obligations.LoadedGeometryKeepsRelations
  intro image crc c
  have hf : FieldsTaken image c := loadedConfig_fieldsTaken image crc
  have hr : ∀ k, RuleTaken image c k := loadedConfig_ruleTaken image crc
  have hfloor : floorOf c ≤ 8191 := loadedConfig_floorOf_le image crc
  have hmask : c.alertMask &&& 0xF000#16 = 0 := loadedConfig_alertMask_high image crc
  have hcrc : c.crc = crc := rfl
  have hclamped : imageClamped image = true ↔ SomeFieldClamped image c := imageClamped_iff image crc
  clear_value c
  have hfields := hf
  have htail : c.scanTail.toNat ≤ floorOf c := ((floorOf_le_iff c _).mp le_rfl).1
  obtain ⟨-, -, -, hpockets, htol, hlenMin, hlenMax, hjamLen, hdecide, hretire, hdivider, hfilter, hquiet, hvote, hscanTail,
    -, hpullIn, hholdOn, hholdOff, hlatency, hadv, hrel, hconf, -, hrate, -, -⟩ := hfields
  obtain ⟨tolLo, tolHi⟩ := nearest_within htol (by omega)
  obtain ⟨lenMinLo, -⟩ := nearest_within (v := fieldWord image 10) rfl (by omega : 1 ≤ 4094)
  obtain ⟨lenMaxLo, lenMaxHi⟩ := nearest_within hlenMax (by omega)
  obtain ⟨-, jamLenHi⟩ := nearest_within (v := fieldWord image 14) rfl (by omega : 1 ≤ 4095)
  obtain ⟨decideLo, decideHi⟩ := nearest_within hdecide (by omega)
  obtain ⟨-, retireHi⟩ := nearest_within (v := fieldWord image 18) rfl (by omega : 0 ≤ 8191)
  obtain ⟨-, scanTailHi⟩ := nearest_within hscanTail (by omega)
  obtain ⟨-, confHi⟩ := nearest_within hconf (by omega)
  obtain ⟨-, dividerHi⟩ := nearest_within hdivider (by omega)
  obtain ⟨filterLo, filterHi⟩ := nearest_within hfilter (by omega)
  obtain ⟨quietLo, quietHi⟩ := nearest_within hquiet (by omega)
  obtain ⟨voteLo, voteHi⟩ := nearest_within hvote (by omega)
  obtain ⟨pullInLo, pullInHi⟩ := nearest_within hpullIn (by omega)
  obtain ⟨holdOnLo, holdOnHi⟩ := nearest_within hholdOn (by omega)
  obtain ⟨holdOffLo, holdOffHi⟩ := nearest_within hholdOff (by omega)
  obtain ⟨-, latencyHi⟩ := nearest_within hlatency (by omega)
  obtain ⟨-, rateHi⟩ := nearest_within hrate (by omega)
  obtain ⟨-, pocketsHi⟩ := nearest_within hpockets (by omega)
  have advHi : c.advMax.toNat ≤ 255 := hadv ▸ Nat.le_of_lt_succ (fieldByte_lt image 36)
  have relHi : c.relMargin.toNat ≤ 255 := hrel ▸ Nat.le_of_lt_succ (fieldByte_lt image 37)
  exact ⟨tolLo, tolHi, by omega, by omega, lenMaxHi, by omega, by omega, decideLo, decideHi, by omega, by omega, scanTailHi,
    confHi, dividerHi, filterLo, filterHi, quietLo, quietHi, voteLo, voteHi, pullInLo, pullInHi, holdOnLo, holdOnHi,
    holdOffLo, holdOffHi, latencyHi, advHi, relHi, rateHi, pocketsHi, hmask, hcrc,
    fun k => rule_off_of_not_counted image c k hf (hr k), fun k => ruleRelations_of_taken image c k hf (hr k), hf, hr,
    hclamped, imageDisables_iff image⟩

end Sys2Proof.Machine
end

section
/-! PROOF. Commands whose event cannot happen (log 4): row by row, the condition under which the state stays as it is. -/

namespace Sys2Proof.Machine

/-! ### Points of the count -/

/-- What makes an entry the Tracker's next point (R74, R77). -/
def State.pointDue (s : State) (e : Entry) : Bool :=
  (e.presence == .expected && pointReached s.tach.count e.expiry)
    || (e.presence == .passed && pointReached s.tach.count e.retirement && (s.ownOp e.id).isNone)

theorem State.trackerPoint_eq (s : State) : s.trackerPoint = s.table.find? s.pointDue := rfl

theorem State.pointDue_iff (s : State) (e : Entry) : s.pointDue e = true ↔ s.Due e := by
  simp only [State.pointDue, State.Due, Bool.or_eq_true, Bool.and_eq_true, beq_iff_eq, pointReached_iff,
    Option.isNone_iff_eq_none, and_assoc]

theorem State.trackerPoint_eq_none (s : State) (h : ∀ x ∈ s.table, ¬s.Due x) : s.trackerPoint = none := by
  rw [State.trackerPoint_eq, List.find?_eq_none]
  exact fun x hx hd => h x hx ((s.pointDue_iff x).mp hd)

/-- The first due entry in table order is the Tracker's next point (R55). -/
theorem State.trackerPoint_first (s : State) (before : List Entry) (e : Entry) (after : List Entry)
    (ht : s.table = before ++ e :: after) (hb : ∀ x ∈ before, ¬s.Due x) (he : s.Due e) : s.trackerPoint = some e := by
  rw [State.trackerPoint_eq, ht]
  exact find_first _ before after e
    (fun x hx => Bool.eq_false_iff.mpr fun hd => hb x hx ((s.pointDue_iff x).mp hd)) ((s.pointDue_iff e).mpr he)

theorem State.decisionDue_eq_none (s : State) (h : ∀ x ∈ s.table, ¬Reached s.tach.count x.decisionPoint) :
    s.decisionDue = none := by
  rw [State.decisionDue, List.find?_eq_none]
  exact fun x hx hd => h x hx ((pointReached_iff _ _).mp hd)

theorem execExpiryPoint_of_none (s : State) (h : s.trackerPoint = none) : execExpiryPoint s = .next s := by
  simp only [execExpiryPoint, h]

theorem execRetirementPoint_of_none (s : State) (h : s.trackerPoint = none) : execRetirementPoint s = .next s := by
  simp only [execRetirementPoint, h]

theorem execExpiryPoint_of_not_expected (s : State) (e : Entry) (h : s.trackerPoint = some e)
    (he : e.presence ≠ .expected) : execExpiryPoint s = .next s := by
  simp only [execExpiryPoint, h, he, and_false, if_false]

theorem execRetirementPoint_of_not_passed (s : State) (e : Entry) (h : s.trackerPoint = some e)
    (he : e.presence ≠ .passed) : execRetirementPoint s = .next s := by
  simp only [execRetirementPoint, h, he, and_false, if_false]

/-- The points of the count are taken in RUNNING only. -/
theorem points_outside_running (s : State) (h : s.runState ≠ .running) :
    execJamPoint s = .next s ∧ execExpiryPoint s = .next s ∧ execRetirementPoint s = .next s
      ∧ execScanClosePoint s = .next s ∧ execDecisionPoint s = .next s := by
  refine ⟨?_, ?_, ?_, ?_, ?_⟩
  · simp [execJamPoint, h]
  · unfold execExpiryPoint
    split <;> simp [h]
  · unfold execRetirementPoint
    split <;> simp [h]
  · unfold execScanClosePoint
    split <;> simp [h]
  · unfold execDecisionPoint
    split <;> simp [h]

theorem execJamPoint_of_unreached (s : State)
    (h : s.pins.pcellBlocked = false ∨ ¬Reached s.tach.count s.blockage.jamAt) : execJamPoint s = .next s := by
  refine if_neg ?_
  rintro ⟨_, hblocked, hreached⟩
  rcases h with h | h
  · exact Bool.false_ne_true (h.symm.trans hblocked)
  · exact h ((pointReached_iff _ _).mp hreached)

theorem execScanClosePoint_of_unreached (s : State)
    (h : ∀ r, s.scan = some r → ¬Reached s.tach.count r.closePoint) : execScanClosePoint s = .next s := by
  unfold execScanClosePoint
  split
  · rename_i r hr
    exact if_neg fun hp => h r hr ((pointReached_iff _ _).mp hp.2)
  · rfl

theorem execDecisionPoint_of_unreached (s : State)
    (h : ∀ x ∈ s.table, ¬Reached s.tach.count x.decisionPoint) : execDecisionPoint s = .next s := by
  simp only [execDecisionPoint, s.decisionDue_eq_none h]

/-! ### Samples of the video -/

/-- Without the sampler no sample is taken (R16). -/
theorem samples_without_sampler (s : State) (high : Bool) (h : s.samplerRuns = false) :
    execVideoSample high s = .next s ∧ execNoiseFilterAccept high s = .next s ∧ execQuietSeen high s = .next s
      ∧ execRunEndByQuiet high s = .next s := by
  simp [execVideoSample, execNoiseFilterAccept, execQuietSeen, execRunEndByQuiet, h]

/-- Each of the four sample rows acts on the one effect it names. -/
theorem execVideoSample_of_effect (s : State) (high : Bool) (h : (s.sample high).2 ≠ .plain) :
    execVideoSample high s = .next s := if_neg fun hs => h hs.2

theorem execNoiseFilterAccept_of_effect (s : State) (high : Bool) (h : (s.sample high).2 ≠ .accepted) :
    execNoiseFilterAccept high s = .next s := if_neg fun hs => h hs.2

theorem execQuietSeen_of_effect (s : State) (high : Bool) (h : (s.sample high).2 ≠ .quietSeen) :
    execQuietSeen high s = .next s := if_neg fun hs => h hs.2

theorem execRunEndByQuiet_of_effect (s : State) (high : Bool) (h : ∀ run, (s.sample high).2 ≠ .runEnd run) :
    execRunEndByQuiet high s = .next s := by
  unfold execRunEndByQuiet
  split
  · split
    · rename_i f run hs
      exact absurd (congrArg Prod.snd hs) (h run)
    · rfl
  · rfl

/-- The NF-th disagreeing sample changes the accepted level, whatever it does to the capture (R18). -/
theorem sampleStep_accepted (nf quiet : Nat) (level : Level) (f : FrontEnd) (hl : level ≠ f.accepted)
    (hn : nf ≤ f.pending + 1) : (sampleStep nf quiet level f).2 = .accepted := by
  simp [sampleStep, filterSample, hl, Nat.not_lt.mpr hn]

theorem filterSample_of_sampled (nf : Nat) (level : Level) (f g : FrontEnd) (h : FrontEnd.Sampled nf level f g) :
    filterSample nf level f = (g, none) := by
  rcases h with ⟨hl, rfl⟩ | ⟨hl, hn, rfl⟩
  · simp [filterSample, hl]
  · simp [filterSample, hl, hn]

/-- The quiet zone of SEEKING_QUIET is complete (R24). -/
def FrontEnd.QuietDone (quiet : Nat) (g : FrontEnd) : Prop :=
  g.capture = .seekingQuiet ∧ g.quietSeen = false ∧ g.accepted = .space ∧ quiet ≤ g.quietWidth

/-- The current space of a run has reached QUIET (R27). -/
def FrontEnd.RunDone (quiet : Nat) (g : FrontEnd) : Prop :=
  g.capture = .inRun ∧ g.accepted = .space ∧ quiet ≤ g.measured

/-- A sample that changes no accepted level has one of the three other effects, told apart by the front end after it. -/
theorem sampleStep_of_sampled (nf quiet : Nat) (level : Level) (f g : FrontEnd) (h : FrontEnd.Sampled nf level f g) :
    (g.QuietDone quiet ∧ (sampleStep nf quiet level f).2 = .quietSeen)
      ∨ (¬g.QuietDone quiet ∧ g.RunDone quiet ∧ (sampleStep nf quiet level f).2 = .runEnd g.runBuffer)
      ∨ (¬g.QuietDone quiet ∧ ¬g.RunDone quiet ∧ (sampleStep nf quiet level f).2 = .plain) := by
  rw [sampleStep, filterSample_of_sampled nf level f g h]
  dsimp only
  split
  · rename_i hq
    exact .inl ⟨hq, rfl⟩
  · rename_i hq
    split
    · rename_i hr
      exact .inr (.inl ⟨hq, hr, rfl⟩)
    · rename_i hr
      exact .inr (.inr ⟨hq, hr, rfl⟩)

theorem samples_of_accepted (s : State) (high : Bool) (hl : s.levelOf high ≠ s.frontEnd.accepted)
    (hn : s.cfg.noiseFilter ≤ s.frontEnd.pending + 1) :
    execVideoSample high s = .next s ∧ execQuietSeen high s = .next s ∧ execRunEndByQuiet high s = .next s := by
  have hacc : (s.sample high).2 = .accepted := sampleStep_accepted _ _ _ _ hl hn
  refine ⟨execVideoSample_of_effect s high ?_, execQuietSeen_of_effect s high ?_,
    execRunEndByQuiet_of_effect s high fun run => ?_⟩
  all_goals simp [hacc]

theorem samples_of_sampled (s : State) (high : Bool) (g : FrontEnd)
    (h : FrontEnd.Sampled s.cfg.noiseFilter (s.levelOf high) s.frontEnd g) :
    execNoiseFilterAccept high s = .next s
      ∧ (g.QuietDone s.cfg.quiet ∨ g.RunDone s.cfg.quiet → execVideoSample high s = .next s)
      ∧ (¬g.QuietDone s.cfg.quiet → execQuietSeen high s = .next s)
      ∧ (¬g.RunDone s.cfg.quiet → execRunEndByQuiet high s = .next s) := by
  have heffect : (g.QuietDone s.cfg.quiet ∧ (s.sample high).2 = .quietSeen)
      ∨ (¬g.QuietDone s.cfg.quiet ∧ g.RunDone s.cfg.quiet ∧ (s.sample high).2 = .runEnd g.runBuffer)
      ∨ (¬g.QuietDone s.cfg.quiet ∧ ¬g.RunDone s.cfg.quiet ∧ (s.sample high).2 = .plain) :=
    sampleStep_of_sampled _ _ _ _ _ h
  rcases heffect with ⟨hq, he⟩ | ⟨hq, hr, he⟩ | ⟨hq, hr, he⟩
  · exact ⟨execNoiseFilterAccept_of_effect s high (by simp [he]),
      fun _ => execVideoSample_of_effect s high (by simp [he]), fun h => absurd hq h,
      fun _ => execRunEndByQuiet_of_effect s high (by simp [he])⟩
  · exact ⟨execNoiseFilterAccept_of_effect s high (by simp [he]),
      fun _ => execVideoSample_of_effect s high (by simp [he]),
      fun _ => execQuietSeen_of_effect s high (by simp [he]), fun h => absurd hr h⟩
  · exact ⟨execNoiseFilterAccept_of_effect s high (by simp [he]), fun h => absurd h (not_or.mpr ⟨hq, hr⟩),
      fun _ => execQuietSeen_of_effect s high (by simp [he]),
      fun _ => execRunEndByQuiet_of_effect s high (by simp [he])⟩

/-! ### Points and timers of a pocket -/

theorem execFirePoint_of_none (k : Fin 4) (s : State)
    (h : ∀ o ∈ (s.pocket k).ops, ¬(o.state = .armed ∧ Reached s.tach.count (some o.fire))) :
    execFirePoint k s = .next s := by
  refine if_neg fun hany => ?_
  obtain ⟨o, ho, hfires⟩ := List.any_eq_true.mp hany
  exact h o ho ((opFires_iff _ _).mp hfires)

theorem execReleasePoint_of_none (k : Fin 4) (s : State)
    (h : ∀ o ∈ (s.pocket k).ops, ¬((o.state = .pullIn ∨ o.state = .hold) ∧ Reached s.tach.count o.release)) :
    execReleasePoint k s = .next s := by
  have hnone : (s.pocket k).ops.find? (opReleases s.tach.count) = none :=
    List.find?_eq_none.mpr fun o ho hrel => h o ho ((opReleases_iff _ _).mp hrel)
  simp only [execReleasePoint, hnone]

theorem execConfirmClose_of_none (k : Fin 4) (s : State)
    (h : ∀ o ∈ (s.pocket k).ops, ¬(o.state = .trailing ∧ o.confirmed = false ∧ Reached s.tach.count o.confirmClose)) :
    execConfirmClose k s = .next s := by
  have hnone : (s.pocket k).ops.find? (opMisses s.tach.count) = none :=
    List.find?_eq_none.mpr fun o ho hmiss => h o ho ((opMisses_iff _ _).mp hmiss)
  simp only [execConfirmClose, hnone]

theorem execPullInExpiry_of_not_pulling (k : Fin 4) (s : State) (h : ∀ t, (s.pocket k).drive ≠ .pulling t) :
    execPullInExpiry k s = .next s := by
  unfold execPullInExpiry
  dsimp only
  split
  · rename_i t ht
    exact absurd ht (h t)
  · rfl

theorem execChopPartExpiry_of_not_holding (k : Fin 4) (s : State) (h : ∀ on t, (s.pocket k).drive ≠ .holding on t) :
    execChopPartExpiry k s = .next s := by
  unfold execChopPartExpiry
  dsimp only
  split
  · rename_i on t ht
    exact absurd ht (h on t)
  · rfl

/-! ### The line and its frames -/

theorem attemptEvents_of_not_sender (s : State) (h : s.line.state ≠ .inFrame .sender) :
    execArbitrationLost s = .next s ∧ execBitError s = .next s ∧ ∀ acked, execAttemptEnd acked s = .next s :=
  ⟨if_neg h, if_neg h, fun _ => if_neg h⟩

theorem execStartOfFrame_of_not_waiting (s : State) (highCells : Nat)
    (h : s.line.state = .inactive ∨ ∃ role, s.line.state = .inFrame role) : execStartOfFrame highCells s = .next s := by
  have hnot : startAccepted s.line highCells = false := by
    rcases h with h | ⟨role, h⟩
    · simp only [startAccepted, h]
    · simp only [startAccepted, h]
  simp [execStartOfFrame, hnot]

theorem execSightStalePoint_of_none (s : State)
    (h : ∀ q ∈ s.line.queue, ¬(Reached s.tach.count q.stalePoint ∧ q.staleReached = false)) :
    execSightStalePoint s = .next s := by
  have hnone : s.line.queue.find? (staleDue s.tach.count) = none :=
    List.find?_eq_none.mpr fun q hq hdue => h q hq ((staleDue_iff _ _).mp hdue)
  simp only [execSightStalePoint, hnone]

theorem execBrokenFrame_of_not_broken (s : State) (cells : List Bool)
    (h : s.line.state ≠ .inFrame .receiver ∨ WellFormed (.brokenFrame cells) = false) :
    execBrokenFrame cells s = .next s := by
  unfold execBrokenFrame
  split
  · rename_i cause hj
    have hr : s.line.state ≠ .inFrame .receiver := h.resolve_right (by simp [WellFormed, hj])
    simp [State.receiving, hr]
  · rfl

theorem State.receive_of_not_receiver (s : State) (h : Header) (owner : State → State)
    (hr : s.line.state ≠ .inFrame .receiver) : s.receive h owner = s := by
  simp [State.receive, State.receiving, hr]

theorem State.receiveOrHandOn_of_no_frame (s : State) (h : Header) (owner : State → State)
    (hr : s.line.state ≠ .inFrame .receiver) (hs : s.line.state ≠ .inFrame .sender) : s.receiveOrHandOn h owner = s := by
  simp [State.receiveOrHandOn, State.sending, hs, s.receive_of_not_receiver h owner hr]

theorem execIgnoredFrameReceived_of_owned (s : State) (h : Header) (kind : BitVec 4) (body : List Byte)
    (hw : WellFormed (.ignoredFrameReceived h kind body) = false) :
    execIgnoredFrameReceived h kind body s = .next s := if_neg (Bool.eq_false_iff.mp hw)

/-- A station that is neither a receiver nor a sender takes no frame, whatever row it is of (R160). -/
theorem exec_frame_of_no_frame (s : State) (hr : s.line.state ≠ .inFrame .receiver)
    (hs : s.line.state ≠ .inFrame .sender) (c : Instr) (hc : frameOf c ≠ none) : exec c s = .next s := by
  have handed (h : Header) (owner : State → State) :
      (.next (s.receiveOrHandOn h owner) : Host.Outcome State Fault Refusal) = .next s :=
    congrArg _ (s.receiveOrHandOn_of_no_frame h owner hr hs)
  have received (h : Header) (owner : State → State) :
      (.next (s.receive h owner) : Host.Outcome State Fault Refusal) = .next s :=
    congrArg _ (s.receive_of_not_receiver h owner hr)
  cases c
  case jamReceived h _ => exact handed h _
  case clearReceived h => exact handed h _
  case claimReceived h _ _ => exact handed h _
  case releaseReceived h _ _ _ => exact handed h _
  case divertedReceived h _ _ _ => exact handed h _
  case sightReceived h _ _ _ => exact received h _
  case readReceived h _ _ _ _ _ => exact handed h _
  case lostReceived h _ => exact handed h _
  case pollReceived h _ => exact handed h _
  case joinReceived h _ _ => exact received h _
  case ignoredFrameReceived h kind body =>
    show execIgnoredFrameReceived h kind body s = .next s
    rw [execIgnoredFrameReceived, received, ite_self]
  all_goals exact absurd rfl hc

/-! ### Pins, resets and the configuration read -/

theorem execPcellLeadingEdge_of_blocked (s : State) (h : s.pins.pcellBlocked = true) :
    execPcellLeadingEdge s = .next s := if_pos h

theorem execPcellTrailingEdge_of_clear (s : State) (h : s.pins.pcellBlocked = false) :
    execPcellTrailingEdge s = .next s := if_neg (Bool.eq_false_iff.mp h)

theorem execStopPress_of_low (s : State) (h : s.pins.stopHigh = false) : execStopPress s = .next s :=
  if_neg (Bool.eq_false_iff.mp h)

theorem execStopRelease_of_high (s : State) (h : s.pins.stopHigh = true) : execStopRelease s = .next s := if_pos h

theorem pocketPins_of_same_level (s : State) (k : Fin 4) :
    execPfullChange k (s.pins.pfull.get k) s = .next s
      ∧ (s.pins.pswap.get k = true → execPswapActive k s = .next s)
      ∧ (s.pins.pswap.get k = false → execPswapInactive k s = .next s) :=
  ⟨if_pos rfl, fun h => if_pos h, fun h => if_neg (Bool.eq_false_iff.mp h)⟩

theorem execResumePress_of_not_jammed (s : State) (h : s.runState ≠ .jammed) : execResumePress s = .next s :=
  if_neg fun hj => h hj.1

theorem execResetEntry_of_low (s : State) :
    (s.pins.powerOk = false → execResetEntry .powerOk s = .next s)
      ∧ (s.pins.resetHigh = false → execResetEntry .reset s = .next s) :=
  ⟨fun h => if_neg (Bool.eq_false_iff.mp h), fun h => if_neg (Bool.eq_false_iff.mp h)⟩

theorem execPowerOkRiseInReset_of_not_low (s : State) (straps : Straps)
    (h : s.runState ≠ .reset ∨ s.pins.powerOk = true ∨ s.pins.resetHigh = true) :
    execPowerOkRiseInReset straps s = .next s := by
  refine if_neg ?_
  rintro ⟨hrun, hpower, hreset⟩
  simp [hrun, hpower, hreset] at h

theorem execResetRelease_outside_reset (s : State) (straps : Straps) (retain : Bool) (h : s.runState ≠ .reset) :
    execResetRelease straps retain s = .next s := if_neg h

theorem execHeaderByteCheck_of_no_header_due (s : State) (b : Byte)
    (h : s.runState ≠ .loading ∨ 4 ≤ s.loader.header.length) : execHeaderByteCheck b s = .next s := by
  refine if_neg ?_
  rintro ⟨hrun, hlen⟩
  exact h.elim (fun h => h hrun) (fun h => Nat.not_lt.mpr h hlen)

theorem execConfigReadComplete_of_not_complete (s : State) (rest : List Byte)
    (h : s.runState ≠ .loading ∨ s.loader.header.length ≠ 4 ∨ rest.length ≠ restLength s.loader.header) :
    execConfigReadComplete rest s = .next s := by
  refine if_neg ?_
  rintro ⟨hrun, hheader, hrest⟩
  exact h.elim (fun h => h hrun) fun h => h.elim (fun h => h hheader) (fun h => h hrest)

/-- Settles O3: each clause is the lemma of its row above. -/
theorem eventsThatCannotHappenChangeNothing : Obligations.EventsThatCannotHappenChangeNothing := by
  unfold Obligations.EventsThatCannotHappenChangeNothing
  intro s
  exact ⟨points_outside_running s, execJamPoint_of_unreached s,
    fun h => ⟨execExpiryPoint_of_none s (s.trackerPoint_eq_none h),
      execRetirementPoint_of_none s (s.trackerPoint_eq_none h)⟩,
    fun before e after ht hb he =>
      ⟨execExpiryPoint_of_not_expected s e (s.trackerPoint_first before e after ht hb he),
        execRetirementPoint_of_not_passed s e (s.trackerPoint_first before e after ht hb he)⟩,
    execScanClosePoint_of_unreached s, execDecisionPoint_of_unreached s,
    fun h high => samples_without_sampler s high h, samples_of_accepted s, samples_of_sampled s,
    fun k => ⟨execFirePoint_of_none k s, execReleasePoint_of_none k s, execConfirmClose_of_none k s,
      execPullInExpiry_of_not_pulling k s, execChopPartExpiry_of_not_holding k s⟩,
    attemptEvents_of_not_sender s, fun h => if_neg h, fun h highCells => execStartOfFrame_of_not_waiting s highCells h,
    execSightStalePoint_of_none s, execBrokenFrame_of_not_broken s, exec_frame_of_no_frame s,
    execIgnoredFrameReceived_of_owned s, execPcellLeadingEdge_of_blocked s, execPcellTrailingEdge_of_clear s,
    execStopPress_of_low s, execStopRelease_of_high s, pocketPins_of_same_level s, execResumePress_of_not_jammed s,
    execTachStall_of_unsaturated s, (execResetEntry_of_low s).1, (execResetEntry_of_low s).2,
    fun h straps => execPowerOkRiseInReset_of_not_low s straps h,
    fun h straps retain => execResetRelease_outside_reset s straps retain h,
    fun h b => execHeaderByteCheck_of_no_header_due s b h, execConfigReadComplete_of_not_complete s⟩

end Sys2Proof.Machine
end

section
/-! PROOF. The Scan Front End: what one sample of VIDEO does, row by row, and a SWEEP edge (R16 to R29, R44). -/

namespace Sys2Proof.Machine

theorem effectivePolarity_eq_false_iff (straps : Straps) (cfg : StationConfig) :
    effectivePolarity straps cfg = false ↔ straps.vpol = cfg.polarity := by
  simp [effectivePolarity]

/-- With polarity 0 a high sample is a bar, with polarity 1 a low one (R17). -/
theorem sampleLevel_eq_bar_iff (polarity high : Bool) :
    sampleLevel polarity high = .bar ↔ (high = true ↔ polarity = false) := by
  cases polarity <;> cases high <;> decide

/-! ### The sample rows, by what the station's sample does -/

theorem execVideoSample_of_plain (s : State) (high : Bool) (f : FrontEnd) (hr : s.samplerRuns = true)
    (h : s.sample high = (f, .plain)) : execVideoSample high s = .next { s with frontEnd := f } := by
  simp [execVideoSample, hr, h]

theorem execNoiseFilterAccept_of_accepted (s : State) (high : Bool) (f : FrontEnd) (hr : s.samplerRuns = true)
    (h : s.sample high = (f, .accepted)) : execNoiseFilterAccept high s = .next { s with frontEnd := f } := by
  simp [execNoiseFilterAccept, hr, h]

theorem execQuietSeen_of_quietSeen (s : State) (high : Bool) (f : FrontEnd) (hr : s.samplerRuns = true)
    (h : s.sample high = (f, .quietSeen)) : execQuietSeen high s = .next { s with frontEnd := f } := by
  simp [execQuietSeen, hr, h]

theorem execRunEndByQuiet_of_runEnd (s : State) (high : Bool) (f : FrontEnd) (run : List Word)
    (hr : s.samplerRuns = true) (h : s.sample high = (f, .runEnd run)) :
    execRunEndByQuiet high s =
      .next { s with frontEnd := f, scan := s.scan.map (ScanRecord.takeRun run) } := by
  simp [execRunEndByQuiet, hr, h]

/-! ### The front end after one sample -/

theorem sampleStep_of_plain (nf quiet : Nat) (level : Level) (f g : FrontEnd) (h : FrontEnd.Sampled nf level f g)
    (hq : ¬g.QuietDone quiet) (hr : ¬g.RunDone quiet) : sampleStep nf quiet level f = (g, .plain) := by
  rw [sampleStep, filterSample_of_sampled nf level f g h]
  exact (if_neg hq).trans (if_neg hr)

theorem sampleStep_of_quietDone (nf quiet : Nat) (level : Level) (f g : FrontEnd) (h : FrontEnd.Sampled nf level f g)
    (hq : g.QuietDone quiet) : sampleStep nf quiet level f = ({ g with quietSeen := true }, .quietSeen) := by
  rw [sampleStep, filterSample_of_sampled nf level f g h]
  exact if_pos hq

/-- A run can end only IN_RUN, where no quiet zone is searched for. -/
theorem sampleStep_of_runDone (nf quiet : Nat) (level : Level) (f g : FrontEnd) (h : FrontEnd.Sampled nf level f g)
    (hr : g.RunDone quiet) :
    sampleStep nf quiet level f =
      ({ g with capture := .seekingQuiet, quietSeen := true, runBuffer := [] }, .runEnd g.runBuffer) := by
  have hq : ¬g.QuietDone quiet := fun hq => nomatch hq.1.symm.trans hr.1
  rw [sampleStep, filterSample_of_sampled nf level f g h]
  exact (if_neg hq).trans (if_pos hr)

/-- The front end with the level accepted: the new element has the width NF, and the capture is not told yet (R18, R19). -/
def FrontEnd.levelAccepted (nf : Nat) (level : Level) (f : FrontEnd) : FrontEnd :=
  { f with
    accepted := level, pending := 0, width := BitVec.ofNat 16 nf, searchSamples := satInc f.searchSamples }

/-- The NF-th disagreeing sample hands the ended element's width to the capture (R18, R19). -/
theorem sampleStep_of_accepted (nf quiet : Nat) (level : Level) (f : FrontEnd) (hl : level ≠ f.accepted)
    (hn : nf ≤ f.pending + 1) :
    sampleStep nf quiet level f = (captureAccepted nf f.width (f.levelAccepted nf level), .accepted) := by
  simp [sampleStep, filterSample, hl, Nat.not_lt.mpr hn, FrontEnd.levelAccepted]

/-! ### What an accepted level does to the capture -/

theorem captureAccepted_of_closed (nf : Nat) (ended : Word) (f : FrontEnd) (h : f.capture = .closed) :
    captureAccepted nf ended f = f := by
  simp [captureAccepted, h]

theorem captureAccepted_starts_run (nf : Nat) (ended : Word) (f : FrontEnd) (h : f.capture = .seekingQuiet)
    (ha : f.accepted = .bar) (hq : f.quietSeen = true) :
    captureAccepted nf ended f = { f with capture := .inRun, quietSeen := false, runBuffer := [] } := by
  simp [captureAccepted, h, ha, hq]

theorem captureAccepted_keeps_seeking (nf : Nat) (ended : Word) (f : FrontEnd) (h : f.capture = .seekingQuiet)
    (ha : f.accepted = .space ∨ f.quietSeen = false) : captureAccepted nf ended f = f := by
  rcases ha with ha | ha
  · simp [captureAccepted, h, ha]
  · simp [captureAccepted, h, ha]

theorem captureAccepted_extends_run (nf : Nat) (ended : Word) (f : FrontEnd) (h : f.capture = .inRun)
    (hlen : f.runBuffer.length < maxRun) :
    captureAccepted nf ended f = { f with runBuffer := f.runBuffer ++ [ended] } := by
  simp [captureAccepted, h, hlen]

theorem captureAccepted_abandons_run (nf : Nat) (ended : Word) (f : FrontEnd) (h : f.capture = .inRun)
    (hlen : maxRun ≤ f.runBuffer.length) :
    captureAccepted nf ended f =
      { f with
        capture := .seekingQuiet, quietSeen := false, runBuffer := [], searchSamples := BitVec.ofNat 16 nf } := by
  simp [captureAccepted, h, Nat.not_lt.mpr hlen]

/-! ### The statements -/

/-- Settles O7: the level by the polarities, and the sample by the effect it does not have. -/
theorem videoSampleCounts : Obligations.VideoSampleCounts := by
  unfold Obligations.VideoSampleCounts
  exact ⟨fun s high => (sampleLevel_eq_bar_iff _ high).trans (iff_congr Iff.rfl (effectivePolarity_eq_false_iff _ _)),
    fun s high g hs h hq hr =>
      execVideoSample_of_plain s high g hs (sampleStep_of_plain _ _ _ _ _ h hq hr)⟩

/-- Settles O8: the sample is accepted, and the capture acts by its state, the level and the run buffer's length. -/
theorem noiseFilterAcceptChangesLevel : Obligations.NoiseFilterAcceptChangesLevel := by
  unfold Obligations.NoiseFilterAcceptChangesLevel
  intro s high hs hl hn f g
  have hexec (x : FrontEnd) (hx : captureAccepted s.cfg.noiseFilter f.width g = x) :
      exec (.noiseFilterAccept high) s = .next { s with frontEnd := x } :=
    execNoiseFilterAccept_of_accepted s high x hs (hx ▸ sampleStep_of_accepted _ _ _ _ hl hn)
  exact ⟨fun hc => hexec _ (captureAccepted_of_closed _ _ g hc),
    fun hc hbar hq => hexec _ (captureAccepted_starts_run _ _ g hc hbar hq),
    fun hc h => hexec _ (captureAccepted_keeps_seeking _ _ g hc h),
    fun hc hlen => hexec _ (captureAccepted_extends_run _ _ g hc hlen),
    fun hc hlen => hexec _ (captureAccepted_abandons_run _ _ g hc hlen)⟩

theorem satInc_byte (x : Byte) : satInc x = if x = 255 then 255 else x + 1 := by
  unfold satInc
  by_cases h : x = 255
  · subst h
    rfl
  · exact (if_neg h).trans (if_neg h).symm

theorem execSweepEdge_of_open (s : State) (h : s.frontEnd.capture ≠ .closed) :
    execSweepEdge s =
      .next
        { s with
          frontEnd :=
            { s.frontEnd with capture := .seekingQuiet, quietSeen := false, runBuffer := [], searchSamples := 0 },
          scan := s.scan.map (fun r => { r with sweeps := if r.sweeps = 255 then 255 else r.sweeps + 1 }) } := by
  simp only [execSweepEdge, h, if_false, FrontEnd.seekQuiet, satInc_byte]

/-- Settles O9: the widths as defined, the two quiet rows by the zone they complete, the SWEEP edge by the capture. -/
theorem quietAndSweepEvents : Obligations.QuietAndSweepEvents := by
  unfold Obligations.QuietAndSweepEvents
  refine ⟨fun g => ⟨rfl, fun h => if_pos h⟩,
    fun s high g hs h hspace => ⟨fun hc hseen hwidth => ?quiet, fun hc hwidth => ?run⟩,
    fun s => ⟨fun h => if_pos h, execSweepEdge_of_open s⟩⟩
  case quiet =>
    exact execQuietSeen_of_quietSeen s high _ hs (sampleStep_of_quietDone _ _ _ _ _ h ⟨hc, hseen, hspace, hwidth⟩)
  case run =>
    exact execRunEndByQuiet_of_runEnd s high _ _ hs (sampleStep_of_runDone _ _ _ _ _ h ⟨hc, hspace, hwidth⟩)

end Sys2Proof.Machine
end

section
/-! PROOF. The laws of Safety.lean by the parts of the state they read, and the relations in which later proofs speak of them:
what keeps the lists and the table (State.ListsKept), and what letter work keeps besides (State.LetterWork). -/

namespace Sys2Proof.Machine

/-! ### The table's law by its letter IDs -/

/-- The letter IDs in the table, in its order. -/
def State.ids (s : State) : List LetterId := s.table.map Entry.id

theorem State.entry_isSome_iff (s : State) (id : LetterId) : (s.entry id).isSome = true ↔ id ∈ s.ids := by
  simp [State.entry, State.ids, List.find?_isSome]

theorem State.mem_ids_of_mem (s : State) (e : Entry) (h : e ∈ s.table) : e.id ∈ s.ids :=
  List.mem_map_of_mem h

theorem State.mem_ids_of_entry (s : State) (id : LetterId) (e : Entry) (h : s.entry id = some e) : e.id ∈ s.ids :=
  s.mem_ids_of_mem e (List.mem_of_find?_eq_some h)

theorem trackLaw_iff (s : State) :
    TrackLaw s ↔
      s.ids.Nodup ∧ (∀ id a j, s.blockage = .blocked id a j → id ∈ s.ids) ∧ ∀ r, s.scan = some r → r.id ∈ s.ids := by
  simp only [TrackLaw, State.entry_isSome_iff]
  rfl

/-- The law reads of the entries only their letter IDs, and of the open window only its letter. -/
theorem TrackLaw.of_same_letters {s t : State} (h : TrackLaw s) (hids : t.ids = s.ids)
    (hblock : t.blockage = s.blockage) (hscan : t.scan.map ScanRecord.id = s.scan.map ScanRecord.id) : TrackLaw t := by
  obtain ⟨hnodup, hblocked, hopen⟩ := (trackLaw_iff s).mp h
  refine (trackLaw_iff t).mpr ⟨hids ▸ hnodup, fun id a j hb => ?_, fun r hr => ?_⟩
  · rw [hids]
    exact hblocked id a j (hblock ▸ hb)
  · rw [hr, Option.map_some, eq_comm, Option.map_eq_some_iff] at hscan
    obtain ⟨q, hq, hid⟩ := hscan
    rw [hids, ← hid]
    exact hopen q hq

/-! ### What keeps the lists and the table -/

/-- From s to t no list outgrows its place and the table's law is kept. -/
structure State.ListsKept (s t : State) : Prop where
  entries : s.table.length ≤ maxEntries → t.table.length ≤ maxEntries
  frames : s.line.queue.length ≤ maxQueue → t.line.queue.length ≤ maxQueue
  ops : ∀ k, (s.pocket k).ops.length ≤ maxOps → (t.pocket k).ops.length ≤ maxOps
  widths : s.frontEnd.runBuffer.length ≤ maxRun → t.frontEnd.runBuffer.length ≤ maxRun
  candidates : s.candidates.length ≤ maxCandidates → t.candidates.length ≤ maxCandidates
  outcomes : s.readWindow.length ≤ maxWindow → t.readWindow.length ≤ maxWindow
  track : TrackLaw s → TrackLaw t

theorem State.ListsKept.trans {s t u : State} (h : s.ListsKept t) (k : t.ListsKept u) : s.ListsKept u where
  entries := k.entries ∘ h.entries
  frames := k.frames ∘ h.frames
  ops := fun i => k.ops i ∘ h.ops i
  widths := k.widths ∘ h.widths
  candidates := k.candidates ∘ h.candidates
  outcomes := k.outcomes ∘ h.outcomes
  track := k.track ∘ h.track

theorem State.ListsKept.capacityLaw {s t : State} (h : s.ListsKept t) (hs : CapacityLaw s) : CapacityLaw t := by
  obtain ⟨hentries, hframes, hops, hwidths, hcandidates, houtcomes⟩ := hs
  exact ⟨h.entries hentries, h.frames hframes, fun k => h.ops k (hops k), h.widths hwidths, h.candidates hcandidates,
    h.outcomes houtcomes⟩

/-! ### What letter work keeps -/

/-- From s to t the lists and the table are kept, and so is what the run state brings with it, but for the idleness of a
station outside RUNNING. One built on State.LetterWork.refl names only what the change touches. -/
structure State.LetterWork (s t : State) : Prop extends State.ListsKept s t where
  powerOk : t.pins.powerOk = s.pins.powerOk
  resetHigh : t.pins.resetHigh = s.pins.resetHigh
  runState : t.runState = s.runState
  config : t.config = s.config
  selected : t.loader.selected = s.loader.selected
  sent : t.loader.sent = s.loader.sent
  inactive : t.line.state = .inactive ↔ s.line.state = .inactive
  capture : (s.scan = none ↔ s.frontEnd.capture = .closed) → (t.scan = none ↔ t.frontEnd.capture = .closed)

theorem State.LetterWork.refl (s : State) : s.LetterWork s where
  entries h := h
  frames h := h
  ops _ h := h
  widths h := h
  candidates h := h
  outcomes h := h
  track h := h
  powerOk := rfl
  resetHigh := rfl
  runState := rfl
  config := rfl
  selected := rfl
  sent := rfl
  inactive := Iff.rfl
  capture h := h

theorem State.LetterWork.trans {s t u : State} (h : s.LetterWork t) (k : t.LetterWork u) : s.LetterWork u where
  toListsKept := h.toListsKept.trans k.toListsKept
  powerOk := k.powerOk.trans h.powerOk
  resetHigh := k.resetHigh.trans h.resetHigh
  runState := k.runState.trans h.runState
  config := k.config.trans h.config
  selected := k.selected.trans h.selected
  sent := k.sent.trans h.sent
  inactive := k.inactive.trans h.inactive
  capture := k.capture ∘ h.capture

theorem State.joined_iff (s : State) :
    s.joined = true ↔ s.runState = .joining ∨ s.runState = .running ∨ s.runState = .jammed := by
  simp [State.joined, or_assoc]

theorem State.LetterWork.joined {s t : State} (w : s.LetterWork t) : t.joined = s.joined := by
  simp only [State.joined, w.runState]

/-- In RUNNING the law does not ask for idleness, and elsewhere it is asked for here. -/
theorem State.LetterWork.runLaw {s t : State} (w : s.LetterWork t) (h : RunLaw s)
    (hidle : s.runState = .running ∨ (s.Idle → t.Idle)) : RunLaw t := by
  obtain ⟨hreset, hline, hconfig, hnone, hselected, hsent, hwork, hcapture⟩ := h
  refine ⟨?_, ?_, ?_, ?_, ?_, ?_, fun hr => ?_, w.capture hcapture⟩
  · rwa [w.runState, w.powerOk, w.resetHigh]
  · rwa [w.joined, w.inactive]
  · rwa [w.joined, w.config]
  · rwa [w.runState, w.config]
  · rwa [w.selected, w.runState]
  · rwa [w.selected, w.sent]
  · rw [w.runState] at hr
    exact hidle.resolve_left hr (hwork hr)

/-! ### A station without letter work -/

/-- No frame of the queue carries a letter (R158). -/
def Line.NoLetters (l : Line) : Prop := ∀ q ∈ l.queue, isLetterFrame q.frame = false

theorem Line.noLetters_of_empty {l : Line} (h : l.queue = []) : l.NoLetters := fun q hq => by
  rw [h] at hq
  cases hq

theorem isLetterFrame_eq_false_iff (f : Frame) :
    isLetterFrame f = false ↔ (∃ r, f = .jam r) ∨ f = .clear ∨ f = .status ∨ ∃ n crc, f = .join n crc := by
  cases f <;> simp [isLetterFrame]

theorem State.idle_iff (s : State) :
    s.Idle ↔
      s.table = [] ∧ s.blockage = .none ∧ s.scan = none ∧ (∀ k, (s.pocket k).ops = [] ∧ (s.pocket k).drive = .off)
        ∧ s.line.NoLetters := by
  simp only [State.Idle, Line.NoLetters, isLetterFrame_eq_false_iff]

theorem State.Idle.ops {s : State} (h : s.Idle) (k : Fin 4) : (s.pocket k).ops = [] := by
  obtain ⟨-, -, -, hpockets, -⟩ := h
  exact (hpockets k).1

theorem State.Idle.drive {s : State} (h : s.Idle) (k : Fin 4) : (s.pocket k).drive = .off := by
  obtain ⟨-, -, -, hpockets, -⟩ := h
  exact (hpockets k).2

theorem State.Idle.scan {s : State} (h : s.Idle) : s.scan = none := by
  obtain ⟨-, -, hscan, -⟩ := h
  exact hscan

theorem State.Idle.noLetters {s : State} (h : s.Idle) : s.line.NoLetters := by
  obtain ⟨-, -, -, -, hqueue⟩ := s.idle_iff.mp h
  exact hqueue

/-- Only the operations, the drives and the frames queued can differ. -/
theorem State.Idle.of_same_table {s t : State} (h : s.Idle) (htable : t.table = s.table) (hblock : t.blockage = s.blockage)
    (hscan : t.scan = s.scan) (hpockets : ∀ k, (t.pocket k).ops = [] ∧ (t.pocket k).drive = .off)
    (hqueue : t.line.NoLetters) : t.Idle := by
  obtain ⟨htable', hblock', hscan', -⟩ := h
  exact t.idle_iff.mpr ⟨htable.trans htable', hblock.trans hblock', hscan.trans hscan', hpockets, hqueue⟩

/-! ### The three laws together -/

/-- From s to t the laws of the capacities, of the table and of the run states are kept. -/
structure State.LawsKept (s t : State) : Prop where
  capacity : CapacityLaw s → CapacityLaw t
  track : TrackLaw s → TrackLaw t
  run : RunLaw s → RunLaw t

theorem State.LawsKept.refl (s : State) : s.LawsKept s := ⟨id, id, id⟩

theorem State.LawsKept.trans {s t u : State} (h : s.LawsKept t) (k : t.LawsKept u) : s.LawsKept u :=
  ⟨k.capacity ∘ h.capacity, k.track ∘ h.track, k.run ∘ h.run⟩

theorem State.ListsKept.lawsKept {s t : State} (h : s.ListsKept t) (hrun : RunLaw s → RunLaw t) : s.LawsKept t :=
  ⟨h.capacityLaw, h.track, hrun⟩

theorem State.LetterWork.lawsKept_of_running {s t : State} (w : s.LetterWork t) (hr : s.runState = .running) :
    s.LawsKept t :=
  w.toListsKept.lawsKept fun h => w.runLaw h (.inl hr)

theorem State.LetterWork.lawsKept_of_idle {s t : State} (w : s.LetterWork t) (hidle : s.Idle → t.Idle) : s.LawsKept t :=
  w.toListsKept.lawsKept fun h => w.runLaw h (.inr hidle)

end Sys2Proof.Machine
end

section
/-! PROOF. Each update of the state that several commands share is letter work; those that can happen outside RUNNING leave
an idle station idle. -/

namespace Sys2Proof.Machine

/-! ### Lists of the table -/

theorem placeEntry_perm (e : Entry) (t : List Entry) : (placeEntry e t).Perm (e :: t) := by
  induction t with
  | nil => exact List.Perm.refl _
  | cons x xs ih =>
    unfold placeEntry
    split
    · exact List.Perm.refl _
    · exact (List.Perm.cons x ih).trans (List.Perm.swap e x xs)

theorem ids_placeEntry_perm (e : Entry) (t : List Entry) :
    ((placeEntry e t).map Entry.id).Perm (e.id :: t.map Entry.id) :=
  (placeEntry_perm e t).map Entry.id

theorem mem_ids_withoutEntry (i id : LetterId) (t : List Entry) :
    i ∈ (withoutEntry id t).map Entry.id ↔ i ∈ t.map Entry.id ∧ i ≠ id := by
  simp only [withoutEntry, List.mem_map, List.mem_filter, bne_iff_ne]
  constructor
  · rintro ⟨e, ⟨he, hne⟩, rfl⟩
    exact ⟨⟨e, he, rfl⟩, hne⟩
  · rintro ⟨⟨e, he, rfl⟩, hne⟩
    exact ⟨e, ⟨he, hne⟩, rfl⟩

theorem nodup_ids_withoutEntry (id : LetterId) (t : List Entry) (h : (t.map Entry.id).Nodup) :
    ((withoutEntry id t).map Entry.id).Nodup :=
  h.sublist (List.filter_sublist.map Entry.id)

theorem length_withoutEntry_le (id : LetterId) (t : List Entry) : (withoutEntry id t).length ≤ t.length :=
  List.length_filter_le _ _

theorem length_withoutEntry_lt (id : LetterId) (t : List Entry) (h : id ∈ t.map Entry.id) :
    (withoutEntry id t).length < t.length := by
  obtain ⟨e, he, rfl⟩ := List.mem_map.mp h
  exact List.length_filter_lt_length_iff_exists.mpr ⟨e, he, by simp⟩

/-! ### The table -/

theorem State.modifyEntry_ids (s : State) (id : LetterId) (f : Entry → Entry) (hf : ∀ e, (f e).id = e.id) :
    (s.modifyEntry id f).ids = s.ids := by
  simp only [State.ids, State.modifyEntry_table, List.map_map]
  refine List.map_congr_left fun e _ => ?_
  by_cases h : e.id = id
  · simp [h, hf]
  · simp [h]

theorem State.modifyEntry_letterWork (s : State) (id : LetterId) (f : Entry → Entry)
    (hf : ∀ e, (f e).id = e.id) : s.LetterWork (s.modifyEntry id f) where
  __ := State.LetterWork.refl s
  entries := by simp
  track h := h.of_same_letters (s.modifyEntry_ids id f hf) rfl rfl

/-- A new entry needs room, and a letter ID that no entry carries. -/
theorem State.placeEntry_letterWork (s : State) (e : Entry) (hroom : s.table.length < maxEntries) (hnew : e.id ∉ s.ids) :
    s.LetterWork { s with table := placeEntry e s.table } where
  __ := State.LetterWork.refl s
  entries _ := by
    rw [length_placeEntry]
    exact hroom
  track h := by
    obtain ⟨hnodup, hblocked, hopen⟩ := (trackLaw_iff s).mp h
    have hperm := ids_placeEntry_perm e s.table
    have hmem : ∀ i ∈ s.ids, i ∈ (placeEntry e s.table).map Entry.id := fun i hi =>
      hperm.mem_iff.mpr (List.mem_cons_of_mem _ hi)
    exact (trackLaw_iff _).mpr ⟨hperm.nodup_iff.mpr (List.nodup_cons.mpr ⟨hnew, hnodup⟩),
      fun i a j hb => hmem i (hblocked i a j hb), fun r hr => hmem r.id (hopen r hr)⟩

/-- The letter IDs of the table after an entry is taken out and placed again are the ones before. -/
theorem State.mem_replaceEntry_ids (s : State) (e : Entry) (he : e.id ∈ s.ids) (i : LetterId) :
    i ∈ (s.replaceEntry e).ids ↔ i ∈ s.ids := by
  simp only [State.ids, State.replaceEntry_table, (ids_placeEntry_perm _ _).mem_iff, List.mem_cons, mem_ids_withoutEntry]
  by_cases h : i = e.id
  · exact iff_of_true (.inl h) (h ▸ he)
  · simp [h]

theorem State.replaceEntry_letterWork (s : State) (e : Entry) (he : e.id ∈ s.ids) :
    s.LetterWork (s.replaceEntry e) where
  __ := State.LetterWork.refl s
  entries h := by
    have hlt := length_withoutEntry_lt e.id s.table he
    simp only [State.replaceEntry_table, length_placeEntry]
    omega
  track h := by
    obtain ⟨hnodup, hblocked, hopen⟩ := (trackLaw_iff s).mp h
    have hout : e.id ∉ (withoutEntry e.id s.table).map Entry.id := fun h =>
      ((mem_ids_withoutEntry _ _ _).mp h).2 rfl
    exact (trackLaw_iff _).mpr
      ⟨(ids_placeEntry_perm _ _).nodup_iff.mpr
        (List.nodup_cons.mpr ⟨hout, nodup_ids_withoutEntry e.id s.table hnodup⟩),
      fun i a j hb => (s.mem_replaceEntry_ids e he i).mpr (hblocked i a j hb),
      fun r hr => (s.mem_replaceEntry_ids e he r.id).mpr (hopen r hr)⟩

/-! ### The scan window -/

theorem State.discardWindow_letterWork (s : State) : s.LetterWork s.discardWindow where
  __ := State.LetterWork.refl s
  widths _ := Nat.zero_le _
  candidates _ := Nat.zero_le _
  track h := by
    obtain ⟨hnodup, hblocked, -⟩ := (trackLaw_iff s).mp h
    exact (trackLaw_iff _).mpr ⟨hnodup, hblocked, fun r hr => nomatch hr⟩
  capture _ := iff_of_true rfl rfl

theorem State.windowIs_iff (s : State) (id : LetterId) : s.windowIs id = true ↔ ∃ r, s.scan = some r ∧ r.id = id := by
  unfold State.windowIs
  cases s.scan <;> simp

theorem State.discardWindowOf_eq (s : State) (id : LetterId) :
    s.discardWindowOf id = if s.windowIs id then s.discardWindow else s := by
  unfold State.discardWindowOf State.discardWindow
  split <;> rfl

theorem State.discardWindowOf_letterWork (s : State) (id : LetterId) : s.LetterWork (s.discardWindowOf id) := by
  rw [State.discardWindowOf_eq]
  split
  · exact s.discardWindow_letterWork
  · exact .refl s

/-- A window is opened for an entry that is in the table. -/
theorem State.openWindow_letterWork (s : State) (id : LetterId) (hid : id ∈ s.ids) : s.LetterWork (s.openWindow id) := by
  by_cases hs : s.cfg.scanner = true
  · have hopen : s.openWindow id = { s with scan := some (newScanRecord id), frontEnd := s.frontEnd.seekQuiet } := by
      simp [State.openWindow, hs]
    rw [hopen]
    refine { State.LetterWork.refl s with
             widths := fun _ => Nat.zero_le _, candidates := fun _ => Nat.zero_le _, track := fun h => ?_,
             capture := fun _ => iff_of_false nofun nofun }
    obtain ⟨hnodup, hblocked, -⟩ := (trackLaw_iff s).mp h
    refine (trackLaw_iff _).mpr ⟨hnodup, hblocked, fun r hr => ?_⟩
    cases hr
    exact hid
  · have hstays : s.openWindow id = s := by simp [State.openWindow, hs]
    rw [hstays]
    exact .refl s

/-! ### The blockage record -/

/-- A record that names no entry asks for none. -/
theorem State.blockage_letterWork (s : State) (b : Blockage) (hb : ∀ id a j, b = .blocked id a j → id ∈ s.ids) :
    s.LetterWork { s with blockage := b } where
  __ := State.LetterWork.refl s
  track h := by
    obtain ⟨hnodup, -, hopen⟩ := (trackLaw_iff s).mp h
    exact (trackLaw_iff _).mpr ⟨hnodup, hb, hopen⟩

theorem blockageAfterRemoval_blocked (id i : LetterId) (b : Blockage) (a j : Pos)
    (h : blockageAfterRemoval id b = .blocked i a j) : b = .blocked i a j ∧ i ≠ id := by
  cases b with
  | none => cases h
  | untracked k x y => cases h
  | blocked k x y =>
    unfold blockageAfterRemoval at h
    dsimp only at h
    split at h
    · cases h
    · rename_i hne
      cases h
      exact ⟨rfl, hne⟩

/-- What the record and the window name is still in the table: neither names the letter removed. -/
theorem State.removeEntry_letterWork (s : State) (id : LetterId) : s.LetterWork (s.removeEntry id) where
  __ := State.LetterWork.refl s
  entries h := Nat.le_trans (length_withoutEntry_le _ _) h
  widths := (s.discardWindowOf_letterWork id).widths
  candidates := (s.discardWindowOf_letterWork id).candidates
  capture := (s.discardWindowOf_letterWork id).capture
  track h := by
    obtain ⟨hnodup, hblocked, hopen⟩ := (trackLaw_iff s).mp h
    refine (trackLaw_iff _).mpr ⟨nodup_ids_withoutEntry id s.table hnodup, fun i a j hb => ?_, fun r hr => ?_⟩
    · obtain ⟨hb, hne⟩ := blockageAfterRemoval_blocked id i s.blockage a j hb
      exact (mem_ids_withoutEntry _ _ _).mpr ⟨hblocked i a j hb, hne⟩
    · rw [State.removeEntry_scan] at hr
      split at hr
      · cases hr
      · rename_i hw
        exact (mem_ids_withoutEntry _ _ _).mpr
          ⟨hopen r hr, fun hid => hw ((s.windowIs_iff id).mpr ⟨r, hr, hid⟩)⟩

/-! ### Pockets -/

theorem length_modifyFirst {α : Type} (p : α → Bool) (f : α → α) (xs : List α) : (modifyFirst p f xs).length = xs.length := by
  induction xs with
  | nil => rfl
  | cons x xs ih => unfold modifyFirst; split <;> simp [ih]

theorem State.setPocket_letterWork (s : State) (k : Fin 4) (p : Pocket)
    (hp : (s.pocket k).ops.length ≤ maxOps → p.ops.length ≤ maxOps) : s.LetterWork (s.setPocket k p) where
  __ := State.LetterWork.refl s
  ops j := by
    simp only [State.pocket, State.setPocket_pockets, get_set]
    split
    · rename_i hj
      exact hj ▸ hp
    · exact id

/-- The usual case: the list is shortened, or its operations are changed in place. -/
theorem State.setPocket_letterWork_of_le (s : State) (k : Fin 4) (p : Pocket)
    (hp : p.ops.length ≤ (s.pocket k).ops.length) : s.LetterWork (s.setPocket k p) :=
  s.setPocket_letterWork k p fun h => Nat.le_trans hp h

theorem State.setPocket_idle (s : State) (k : Fin 4) (p : Pocket) (hops : p.ops = []) (hdrive : p.drive = .off)
    (h : s.Idle) : (s.setPocket k p).Idle := by
  refine h.of_same_table rfl rfl rfl (fun j => ?_) h.noLetters
  simp only [State.pocket, State.setPocket_pockets, get_set]
  split
  · exact ⟨hops, hdrive⟩
  · exact ⟨h.ops j, h.drive j⟩

theorem State.formPocket_letterWork (s : State) (k : Fin 4) : s.LetterWork (s.formPocket k) :=
  (s.setPocket_letterWork_of_le k (s.reformed k) (Nat.le_refl _)).trans
    { State.LetterWork.refl (s.setPocket k (s.reformed k)) with }

theorem State.formPocket_idle (s : State) (k : Fin 4) (h : s.Idle) : (s.formPocket k).Idle :=
  s.setPocket_idle k (s.reformed k) (h.ops k) (h.drive k) h

/-- Every pocket is changed at once. -/
theorem State.pockets_letterWork (s : State) (ps : PerPocket Pocket)
    (hp : ∀ k, (ps.get k).ops.length ≤ (s.pocket k).ops.length) (c : Conditions) :
    s.LetterWork { s with pockets := ps, conditions := c } where
  __ := State.LetterWork.refl s
  ops k h := Nat.le_trans (hp k) h

/-! ### The transmit queue -/

theorem length_placeNew_le (f : Frame) (w : Line × Conditions) (h : w.1.queue.length ≤ maxQueue) :
    (placeNew f w).1.queue.length ≤ maxQueue := by
  rcases placeNew_queue f w with ⟨hlt, heq⟩ | ⟨l, -, hlen, heq⟩ | ⟨-, heq⟩
  · rw [heq, length_placeFrame]
    exact hlt
  · rw [heq, length_placeFrame, hlen]
    exact h
  · rw [heq]
    exact h

theorem length_offerFrame_le (f : Frame) (w : Line × Conditions) (h : w.1.queue.length ≤ maxQueue) :
    (offerFrame f w).1.queue.length ≤ maxQueue := by
  unfold offerFrame
  split
  · simpa using h
  · split
    · exact h
    · exact length_placeNew_le f w h

theorem length_startAttempt_le (s : State) (w : Line × Conditions) :
    (startAttempt s w).1.queue.length ≤ w.1.queue.length := by
  rcases startAttempt_queue s w with ⟨-, heq⟩ | ⟨f, rest, hq, heq, -⟩ | ⟨f, rest, hq, heq, -⟩
  · rw [heq]
  · simp [heq, hq]
  · simp [heq, hq]

theorem startAttempt_active (s : State) (w : Line × Conditions) (h : w.1.state ≠ .inactive) :
    (startAttempt s w).1.state ≠ .inactive := by
  rcases startAttempt_queue s w with ⟨-, heq⟩ | ⟨f, rest, -, -, heq⟩ | ⟨f, rest, -, -, heq⟩
  · rwa [heq]
  · rw [heq]
    nofun
  · rw [heq]
    nofun

theorem startIfFree_inactive_iff (s : State) (w : Line × Conditions) :
    (startIfFree s w).1.state = .inactive ↔ w.1.state = .inactive := by
  unfold startIfFree
  split
  · rename_i hfree
    have hw : w.1.state ≠ .inactive := by
      rw [hfree]
      nofun
    exact iff_of_false (startAttempt_active s w hw) hw
  · exact Iff.rfl

theorem State.enqueue_letterWork (s : State) (f : Frame) : s.LetterWork (s.enqueue f) where
  __ := State.LetterWork.refl s
  frames h := by
    have hoffer := length_offerFrame_le f (s.line, s.conditions) h
    show (startIfFree s (offerFrame f (s.line, s.conditions))).1.queue.length ≤ maxQueue
    unfold startIfFree
    split
    · exact Nat.le_trans (length_startAttempt_le s _) hoffer
    · exact hoffer
  inactive := (startIfFree_inactive_iff s _).trans (by rw [offerFrame_state])

theorem noLetters_placeFrame (q : QueuedFrame) (l : List QueuedFrame) (hq : isLetterFrame q.frame = false)
    (hl : ∀ x ∈ l, isLetterFrame x.frame = false) : ∀ x ∈ placeFrame q l, isLetterFrame x.frame = false := fun x hx => by
  rcases (mem_placeFrame q x l).mp hx with rfl | hx
  · exact hq
  · exact hl x hx

theorem placeNew_noLetters (f : Frame) (w : Line × Conditions) (hf : isLetterFrame f = false) (h : w.1.NoLetters) :
    (placeNew f w).1.NoLetters := by
  unfold Line.NoLetters
  rcases placeNew_queue f w with ⟨-, heq⟩ | ⟨l, hl, -, heq⟩ | ⟨-, heq⟩
  · rw [heq]
    exact noLetters_placeFrame _ _ hf h
  · rw [heq]
    exact noLetters_placeFrame _ _ hf fun x hx => h x (hl.subset hx)
  · rw [heq]
    exact h

/-- A map that keeps the frames keeps what they carry. -/
theorem noLetters_map (l : List QueuedFrame) (f : QueuedFrame → QueuedFrame) (hf : ∀ q, (f q).frame = q.frame)
    (h : ∀ x ∈ l, isLetterFrame x.frame = false) : ∀ x ∈ l.map f, isLetterFrame x.frame = false := fun x hx => by
  obtain ⟨q, hq, rfl⟩ := List.mem_map.mp hx
  rw [hf]
  exact h q hq

theorem offerFrame_noLetters (f : Frame) (w : Line × Conditions) (hf : isLetterFrame f = false) (h : w.1.NoLetters) :
    (offerFrame f w).1.NoLetters := by
  unfold offerFrame
  split
  · exact noLetters_map _ _ (fun q => by split <;> rfl) h
  · split
    · exact h
    · exact placeNew_noLetters f w hf h

theorem startAttempt_noLetters (s : State) (w : Line × Conditions) (h : w.1.NoLetters) :
    (startAttempt s w).1.NoLetters := by
  unfold Line.NoLetters
  rcases startAttempt_queue s w with ⟨-, heq⟩ | ⟨f, rest, hq, heq, -⟩ | ⟨f, rest, hq, heq, -⟩
  · rw [heq]
    exact h
  · rw [heq]
    exact fun x hx => h x (hq ▸ List.mem_cons_of_mem _ hx)
  · rw [heq]
    intro x hx
    rcases List.mem_cons.mp hx with rfl | hx
    · exact h f (hq ▸ List.mem_cons_self)
    · exact h x (hq ▸ List.mem_cons_of_mem _ hx)

theorem State.enqueue_noLetters (s : State) (f : Frame) (hf : isLetterFrame f = false) (h : s.line.NoLetters) :
    (s.enqueue f).line.NoLetters := by
  have hoffer := offerFrame_noLetters f (s.line, s.conditions) hf h
  show (startIfFree s (offerFrame f (s.line, s.conditions))).1.NoLetters
  unfold startIfFree
  split
  · exact startAttempt_noLetters s _ hoffer
  · exact hoffer

theorem State.enqueue_idle (s : State) (f : Frame) (hf : isLetterFrame f = false) (h : s.Idle) : (s.enqueue f).Idle :=
  h.of_same_table rfl rfl rfl (fun k => ⟨h.ops k, h.drive k⟩) (s.enqueue_noLetters f hf h.noLetters)

theorem State.withdrawClaim_letterWork (s : State) (id : LetterId) : s.LetterWork (s.withdrawClaim id) where
  __ := State.LetterWork.refl s
  frames h := Nat.le_trans (List.length_filter_le _ _) h

/-! ### Counters and conditions -/

theorem State.count_letterWork (s : State) (f : Counters → Counters) : s.LetterWork (s.count f) :=
  { State.LetterWork.refl s with }

theorem State.latch_letterWork (s : State) (c : Condition) : s.LetterWork (s.latch c) :=
  { State.LetterWork.refl s with }

end Sys2Proof.Machine
end

section
/-! PROOF. What the blocks do with letters is letter work: each operation of the model by the ones it is made of. -/

namespace Sys2Proof.Machine

/-! ### Operations of a pocket's list -/

theorem State.cancelOp_letterWork (s : State) (k : Fin 4) (id : LetterId) : s.LetterWork (s.cancelOp k id) :=
  s.setPocket_letterWork_of_le k _ List.eraseP_sublist.length_le

theorem State.dropOp_letterWork (s : State) (k : Fin 4) (o : GateOp) : s.LetterWork (s.dropOp k o) :=
  s.setPocket_letterWork_of_le k _ (List.erase_sublist).length_le

theorem State.countMiss_letterWork (s : State) (k : Fin 4) : s.LetterWork (s.countMiss k) := by
  refine .trans (s.setPocket_letterWork_of_le k _ ?_) (State.formPocket_letterWork _ k)
  exact Nat.le_refl _

/-! ### Release and re-judgement (R110 to R113) -/

theorem State.releaseClaim_letterWork (s : State) (id : LetterId) (k : Fin 4) (r : ReleaseReason) :
    s.LetterWork (s.releaseClaim id k r) := by
  unfold State.releaseClaim
  refine (s.modifyEntry_letterWork id (fun e => { e with claim := .releasedSelf }) fun _ => rfl).trans
    (.trans ?_ (State.count_letterWork _ _))
  split
  · exact State.withdrawClaim_letterWork _ id
  · exact State.enqueue_letterWork _ _

theorem State.releaseClaim_ids (s : State) (id : LetterId) (k : Fin 4) (r : ReleaseReason) :
    (s.releaseClaim id k r).ids = s.ids := by
  rw [← s.modifyEntry_ids id (fun e => { e with claim := .releasedSelf }) fun _ => rfl]
  unfold State.releaseClaim
  dsimp only
  split <;> rfl

theorem State.rejudge_letterWork (s : State) (id : LetterId) : s.LetterWork (s.rejudge id) := by
  unfold State.rejudge
  split
  · split
    · exact (s.releaseClaim_letterWork id _ _).trans (State.cancelOp_letterWork _ _ id)
    · exact .refl s
  · exact .refl s

theorem State.swapCancel_letterWork (s : State) (k : Fin 4) (o : GateOp) : s.LetterWork (s.swapCancel k o) := by
  unfold State.swapCancel
  split
  · exact (s.releaseClaim_letterWork o.id k _).trans (State.cancelOp_letterWork _ k o.id)
  · exact .refl s

theorem State.swapCancels_letterWork (s : State) (k : Fin 4) (ops : List GateOp) :
    s.LetterWork (ops.foldl (fun u o => u.swapCancel k o) s) := by
  induction ops generalizing s with
  | nil => exact .refl s
  | cons o rest ih => exact (s.swapCancel_letterWork k o).trans (ih _)

/-! ### Leaving the table (R74, R77, R78, R134 to R136) -/

theorem State.retire_letterWork (s : State) (e : Entry) : s.LetterWork (s.retire e) := by
  unfold State.retire
  dsimp only
  split
  · exact ((s.removeEntry_letterWork e.id).trans (State.enqueue_letterWork _ _)).trans (State.count_letterWork _ _)
  · exact s.removeEntry_letterWork e.id

theorem State.retireIfDue_letterWork (s : State) (id : LetterId) : s.LetterWork (s.retireIfDue id) := by
  unfold State.retireIfDue
  split
  · split
    · exact s.retire_letterWork _
    · exact .refl s
  · exact .refl s

theorem State.expire_letterWork (s : State) (e : Entry) : s.LetterWork (s.expire e) := by
  unfold State.expire
  dsimp only
  split
  · exact s.removeEntry_letterWork e.id
  · exact ((s.removeEntry_letterWork e.id).trans (State.enqueue_letterWork _ _)).trans (State.count_letterWork _ _)

theorem State.miss_letterWork (s : State) (k : Fin 4) (o : GateOp) : s.LetterWork (s.miss k o) := by
  unfold State.miss
  split
  · exact (s.dropOp_letterWork k o).trans (State.removeEntry_letterWork _ o.id)
  · exact (((s.releaseClaim_letterWork o.id k _).trans (State.countMiss_letterWork _ k)).trans
      (State.dropOp_letterWork _ k o)).trans (State.retireIfDue_letterWork _ o.id)

theorem length_confirmedOps_le (o : GateOp) (ops : List GateOp) : (confirmedOps o ops).length ≤ ops.length := by
  unfold confirmedOps
  split
  · exact List.eraseP_sublist.length_le
  · exact Nat.le_of_eq (length_modifyFirst _ _ _)

theorem State.confirm_letterWork (s : State) (k : Fin 4) (o : GateOp) : s.LetterWork (s.confirm k o) :=
  (((s.setPocket_letterWork_of_le k _ (length_confirmedOps_le o _)).trans (State.enqueue_letterWork _ _)).trans
    (State.count_letterWork _ _)).trans (State.removeEntry_letterWork _ o.id)

/-! ### Reads and the close of a window (R46, R81 to R92) -/

theorem State.applyRead_letterWork (s : State) (id : LetterId) (f : Identity → Identity) :
    s.LetterWork (s.applyRead id f) := by
  unfold State.applyRead
  split
  · exact .refl s
  · have hread := s.modifyEntry_letterWork id (fun x => { x with identity := f x.identity }) fun _ => rfl
    dsimp only
    split
    · exact hread
    · exact hread.trans (State.rejudge_letterWork _ id)

theorem length_enterOutcome_le (o : ReadOutcome) (w : List ReadOutcome) (h : w.length ≤ maxWindow) :
    (enterOutcome o w).length ≤ maxWindow := by
  unfold enterOutcome
  split
  · rename_i hlt
    simpa using hlt
  · rename_i hfull
    simp only [maxWindow] at h hfull ⊢
    simp only [List.length_append, List.length_drop, List.length_singleton]
    omega

theorem State.countRead_letterWork (s : State) (o : ReadOutcome) : s.LetterWork (s.countRead o) where
  __ := State.LetterWork.refl s
  outcomes := length_enterOutcome_le o s.readWindow

theorem State.ownRead_letterWork (s : State) (r : ReadRecord) : s.LetterWork (s.ownRead r) :=
  ((s.applyRead_letterWork r.id _).trans (State.enqueue_letterWork _ _)).trans (State.countRead_letterWork _ _)

theorem State.closeWindow_letterWork (s : State) : s.LetterWork s.closeWindow := by
  unfold State.closeWindow
  split
  · exact .refl s
  · exact (s.ownRead_letterWork _).trans (State.discardWindow_letterWork _)

/-! ### The leading edge (R60 to R65) -/

theorem State.arrived_letterWork (s : State) (id : LetterId) (hid : id ∈ s.ids) : s.LetterWork (s.arrived id) :=
  (s.blockage_letterWork _ fun _ _ _ h => by cases h; exact hid).trans (State.openWindow_letterWork _ id hid)

theorem State.untrackedArrival_letterWork (s : State) : s.LetterWork s.untrackedArrival :=
  s.blockage_letterWork _ fun _ _ _ h => nomatch h

/-- The number found is carried by no entry of the station (R63). -/
theorem freeSequence_free (t : List Entry) (station : Station) (n : Nat) (q r : BitVec 12)
    (h : freeSequence t station n q = some r) : ({ origin := station, seq := r } : LetterId) ∉ t.map Entry.id := by
  induction n generalizing q with
  | zero => cases h
  | succ n ih =>
    unfold freeSequence at h
    split at h
    · exact ih _ h
    · rename_i hfree
      cases h
      intro hmem
      obtain ⟨e, he, hid⟩ := List.mem_map.mp hmem
      exact hfree (List.any_eq_true.mpr ⟨e, he, by simp [hid]⟩)

theorem State.orphanArrival_letterWork (s : State) : s.LetterWork s.orphanArrival := by
  unfold State.orphanArrival
  split
  · rename_i hroom
    split
    · rename_i q hq
      have hcounted : s.LetterWork { s with sequence := q + 1 } := { State.LetterWork.refl s with }
      have hplaced := State.placeEntry_letterWork { s with sequence := q + 1 }
        (orphanEntry { origin := s.straps.station, seq := q } s.tach.count s.cfg.decideDist) hroom
        (freeSequence_free _ _ _ _ _ hq)
      refine (hcounted.trans hplaced).trans (State.arrived_letterWork _ _ ?_)
      exact (ids_placeEntry_perm _ _).mem_iff.mpr List.mem_cons_self
    · exact s.untrackedArrival_letterWork
  · exact (s.latch_letterWork .tableFull).trans (State.untrackedArrival_letterWork _)

theorem State.leadingEdge_letterWork (s : State) : s.LetterWork s.leadingEdge := by
  refine s.closeWindow_letterWork.trans ?_
  unfold State.leadingEdge
  dsimp only
  split
  · rename_i e he
    have hid := s.closeWindow.mem_ids_of_mem e (List.mem_of_find?_eq_some he)
    exact (State.replaceEntry_letterWork _ (matchedEntry _ _ e) hid).trans
      (State.arrived_letterWork _ e.id ((State.mem_replaceEntry_ids _ (matchedEntry _ _ e) hid e.id).mpr hid))
  · exact State.orphanArrival_letterWork _

/-! ### The trailing edge (R66 to R73) -/

theorem State.giveTrailing_letterWork (s : State) (id : LetterId) (x : Pos) : s.LetterWork (s.giveTrailing id x) := by
  refine s.pockets_letterWork _ (fun k => ?_) s.conditions
  match k with
  | 0 => exact Nat.le_of_eq (List.length_map ..)
  | 1 => exact Nat.le_of_eq (List.length_map ..)
  | 2 => exact Nat.le_of_eq (List.length_map ..)
  | 3 => exact Nat.le_of_eq (List.length_map ..)

/-- A fragment's entry is in the table: it is removed, or placed again as EXPECTED. -/
theorem State.fragment_letterWork (s : State) (e : Entry) (he : e.id ∈ s.ids) : s.LetterWork (s.fragment e) := by
  unfold State.fragment
  split
  · exact s.removeEntry_letterWork e.id
  · have hreverted := (s.discardWindowOf_letterWork e.id).trans
      (State.replaceEntry_letterWork _ (revertedEntry s.cfg.tol e) he)
    dsimp only
    split
    · exact hreverted.trans (State.expire_letterWork _ _)
    · exact hreverted

theorem State.setClosePoint_letterWork (s : State) (id : LetterId) : s.LetterWork (s.setClosePoint id) := by
  unfold State.setClosePoint
  split
  · rename_i r hr
    split
    · have hset (x : Option Pos) : s.LetterWork { s with scan := some { r with closePoint := x } } :=
        { State.LetterWork.refl s with
          candidates := fun h => by simpa [State.candidates, hr] using h
          track := fun h => h.of_same_letters rfl rfl (by rw [hr]; rfl)
          capture := fun h => by simpa [hr] using h }
      dsimp only
      split
      · exact (hset _).trans (State.closeWindow_letterWork _)
      · exact hset _
    · exact .refl s
  · exact .refl s

theorem State.queueSight_letterWork (s : State) (e : Entry) (a : Pos) (l : Word) : s.LetterWork (s.queueSight e a l) := by
  unfold State.queueSight
  split
  · exact (s.enqueue_letterWork _).trans (State.count_letterWork _ _)
  · exact .refl s

theorem State.letterPassed_letterWork (s : State) (e : Entry) (a : Pos) (l : Word) :
    s.LetterWork (s.letterPassed e a l) := by
  unfold State.letterPassed
  dsimp only
  have hpassed := s.modifyEntry_letterWork e.id (passedEntry s.tach.count l s.cfg.lenMax s.cfg.retire)
    fun _ => rfl
  have htold := (hpassed.trans (State.queueSight_letterWork _ e a l)).trans
    (State.giveTrailing_letterWork _ e.id s.tach.count)
  refine htold.trans (.trans ?_ ((State.setClosePoint_letterWork _ e.id).trans (State.retireIfDue_letterWork _ e.id)))
  split
  · exact .refl _
  · exact State.rejudge_letterWork _ e.id

theorem State.shortBlockage_letterWork (s : State) (e : Entry) (a : Pos) (l : Word) (he : e.id ∈ s.ids) :
    s.LetterWork (s.shortBlockage e a l) := by
  unfold State.shortBlockage
  split
  · rename_i k _ o _ _
    split
    · have hreleased := (s.releaseClaim_letterWork e.id k .rejudged).trans (State.cancelOp_letterWork _ k e.id)
      refine hreleased.trans (State.fragment_letterWork _ { e with claim := .releasedSelf } ?_)
      show e.id ∈ (s.releaseClaim e.id k .rejudged).ids
      rwa [State.releaseClaim_ids]
    · exact s.letterPassed_letterWork e a l
  · exact s.fragment_letterWork e he

theorem State.trailingEdge_letterWork (s : State) : s.LetterWork s.trailingEdge := by
  refine (s.blockage_letterWork .none fun _ _ _ h => nomatch h).trans ?_
  unfold State.trailingEdge
  dsimp only
  split
  · exact .refl _
  · exact .refl _
  · exact State.giveTrailing_letterWork _ _ _
  · split
    · exact .refl _
    · rename_i e he
      split
      · exact State.shortBlockage_letterWork _ e _ _ (s.mem_ids_of_entry _ e he)
      · exact State.letterPassed_letterWork _ e _ _

/-! ### The decision (R101 to R104, R121) -/

/-- An operation is created in a pocket with room for it. -/
theorem State.createOp_letterWork (s : State) (k : Fin 4) (e : Entry) (hroom : (s.pocket k).ops.length < maxOps) :
    s.LetterWork (s.createOp k e) :=
  s.setPocket_letterWork k _ fun _ => (length_placeOp _ _).trans_le hroom

theorem State.choosePocket_room (s : State) (e : Entry) (k : Fin 4) (h : s.choosePocket e = some k) :
    (s.pocket k).ops.length < maxOps := by
  have hfits := List.find?_some h
  simp only [Pocket.available, Bool.and_eq_true, decide_eq_true_eq] at hfits
  exact hfits.2.2

theorem State.claimPocket_letterWork (s : State) (k : Fin 4) (e : Entry) (hroom : (s.pocket k).ops.length < maxOps) :
    s.LetterWork (s.claimPocket k e) := by
  have hclaimed := (s.modifyEntry_letterWork e.id (fun x => { x with claim := .own k }) fun _ => rfl).trans
    (State.enqueue_letterWork _ (.claim e.id k))
  exact (hclaimed.trans (State.createOp_letterWork _ k e hroom)).trans
    (State.count_letterWork _ fun c => { c with claims := satInc c.claims })

theorem State.decideEntry_letterWork (s : State) (e : Entry) : s.LetterWork (s.decideEntry e) := by
  refine (s.modifyEntry_letterWork e.id (fun x => { x with decided := true, decisionPoint := none }) fun _ => rfl).trans ?_
  unfold State.decideEntry
  dsimp only
  split
  · split
    · rename_i k hk
      exact State.claimPocket_letterWork _ k e (State.choosePocket_room _ e k hk)
    · exact .refl _
  · exact .refl _

/-! ### Received letter frames (R57 to R59, R75, R76, R87, R106 to R109) -/

theorem State.claimAgainstOwn_letterWork (s : State) (id : LetterId) (station : Station) (pocket : Byte) :
    s.LetterWork (s.claimAgainstOwn id station pocket) := by
  unfold State.claimAgainstOwn
  split
  · exact .refl s
  · rename_i k o _
    split
    · have hgiven := (s.cancelOp_letterWork k id).trans
        (State.modifyEntry_letterWork _ id (fun x => { x with claim := .peer station pocket }) fun _ => rfl)
      exact hgiven.trans (State.withdrawClaim_letterWork _ id)
    · exact (s.setPocket_letterWork_of_le _ _ (Nat.le_of_eq (length_modifyFirst _ _ _))).trans
        (State.latch_letterWork _ _)

theorem State.takeClaim_letterWork (s : State) (h : Header) (id : LetterId) (pocket : Byte) :
    s.LetterWork (s.takeClaim h id pocket) := by
  unfold State.takeClaim
  split
  · split
    · exact .refl s
    · split
      · exact s.modifyEntry_letterWork id _ fun _ => rfl
      · exact s.claimAgainstOwn_letterWork id _ _
      · exact .refl s
      · exact .refl s
  · exact .refl s

theorem State.takeRelease_letterWork (s : State) (h : Header) (id : LetterId) (pocket : Byte) :
    s.LetterWork (s.takeRelease h id pocket) := by
  unfold State.takeRelease
  split
  · split
    · exact .refl s
    · split
      · exact s.modifyEntry_letterWork id _ fun _ => rfl
      · exact .refl s
  · exact .refl s

theorem State.takeDiverted_letterWork (s : State) (h : Header) (id : LetterId) : s.LetterWork (s.takeDiverted h id) := by
  unfold State.takeDiverted
  split
  · split
    · exact .refl s
    · split
      · exact (s.withdrawClaim_letterWork id).trans (State.removeEntry_letterWork _ id)
      · split
        · exact ((s.cancelOp_letterWork _ id).trans (State.withdrawClaim_letterWork _ id)).trans
            (State.removeEntry_letterWork _ id)
        · exact (s.modifyEntry_letterWork id (fun x => { x with divertedHeard := true }) fun _ => rfl).trans
            (State.latch_letterWork _ _)
  · exact .refl s

theorem State.takeSight_letterWork (s : State) (h : Header) (id : LetterId) (age length : Word) :
    s.LetterWork (s.takeSight h id age length) := by
  unfold State.takeSight
  split
  · dsimp only
    split
    · exact .refl s
    · rename_i hnew
      split
      · exact s.count_letterWork _
      · split
        · rename_i hroom
          exact s.placeEntry_letterWork _ hroom fun hid => hnew ((s.entry_isSome_iff id).mpr hid)
        · exact s.latch_letterWork _
  · exact .refl s

theorem State.takeRead_letterWork (s : State) (h : Header) (id : LetterId) (outcome quality : Byte) (code : Option Code) :
    s.LetterWork (s.takeRead h id outcome quality code) := by
  unfold State.takeRead
  split
  · split
    · exact s.applyRead_letterWork id _
    · exact .refl s
  · exact .refl s

theorem State.takeLost_letterWork (s : State) (h : Header) (id : LetterId) : s.LetterWork (s.takeLost h id) := by
  unfold State.takeLost
  split
  · split
    · exact .refl s
    · split
      · exact s.removeEntry_letterWork id
      · exact s.modifyEntry_letterWork id _ fun _ => rfl
  · exact .refl s

end Sys2Proof.Machine
end

section
/-! PROOF. The changes of the run state: which of them keep the laws, and from where (R163 to R181). -/

namespace Sys2Proof.Machine

/-! ### JOINING, RUNNING and JAMMED -/

/-- Outside RESET no reset signal is low (R163). -/
theorem RunLaw.signals_high {s : State} (h : RunLaw s) (hr : s.runState ≠ .reset) :
    s.pins.powerOk = true ∧ s.pins.resetHigh = true := by
  obtain ⟨hreset, -⟩ := h
  by_contra hlow
  exact hr (hreset.mpr hlow)

/-- Between the run states in which the line is active, a station can turn to RUNNING as it is, and to JAMMED when it is
idle. -/
theorem RunLaw.turned {s : State} (h : RunLaw s) (r : RunState) (c : Conditions) (hj : s.joined = true)
    (hr : r = .running ∨ r = .jammed ∧ s.Idle) : RunLaw { s with runState := r, conditions := c } := by
  have hup := h.signals_high fun hin => by simp [State.joined, hin] at hj
  obtain ⟨-, hline, hconfig, -, hselected, -, -, hcapture⟩ := h
  have hunread : ¬s.loader.selected = true := fun hs => by simp [State.joined, hselected.mp hs] at hj
  have hr' : r = .running ∨ r = .jammed := hr.imp id And.left
  have hjoined : State.joined { s with runState := r, conditions := c } = true := (State.joined_iff _).mpr (.inr hr')
  have hnot (r' : RunState) (h1 : r' ≠ .running) (h2 : r' ≠ .jammed) : r ≠ r' := by
    rcases hr' with rfl | rfl
    · exact h1.symm
    · exact h2.symm
  refine ⟨iff_of_false (hnot .reset nofun nofun) fun hlow => hlow hup, ?_, fun _ => hconfig hj, fun hin => ?_,
    iff_of_false hunread (hnot .loading nofun nofun), fun hs => absurd hs hunread, fun hout => ?_, hcapture⟩
  · rwa [hjoined, ← hj]
  · exact hin.elim (fun hin => absurd hin (hnot .loading nofun nofun)) fun hin => absurd hin (hnot .halted nofun nofun)
  · exact (hr.resolve_left hout).2

theorem State.turned_listsKept (s : State) (r : RunState) (c : Conditions) :
    s.ListsKept { s with runState := r, conditions := c } :=
  { State.LetterWork.refl s with }

theorem State.joined_of_running {s : State} (h : s.runState = .running) : s.joined = true :=
  s.joined_iff.mpr (.inr (.inl h))

theorem State.joined_of_jammed {s : State} (h : s.runState = .jammed) : s.joined = true :=
  s.joined_iff.mpr (.inr (.inr h))

/-- The station with the letter work of RUNNING given up, before the JAM frame (steps 1 to 4 of R179). -/
theorem State.emptied_letterWork (s : State) : s.LetterWork s.emptied where
  __ := State.LetterWork.refl s
  entries _ := Nat.zero_le _
  frames h := Nat.le_trans (List.length_filter_le _ _) h
  ops k _ := by simp [State.emptied, State.pocket]
  widths _ := Nat.zero_le _
  candidates _ := Nat.zero_le _
  track _ := ⟨List.nodup_nil, nofun, nofun⟩
  capture _ := iff_of_true rfl rfl

theorem State.emptied_idle (s : State) : s.emptied.Idle := by
  refine s.emptied.idle_iff.mpr ⟨rfl, rfl, rfl, fun k => ?_, fun q hq => ?_⟩
  · simp [State.emptied, State.pocket]
  · simpa using (List.mem_filter.mp hq).2

/-- The JAM frame of the cause, if it calls for one (step 5 of R179). -/
def State.offerJam (s : State) (jam : Option JamReason) : State :=
  match jam with
  | some r => s.enqueue (.jam r)
  | none => s

theorem State.enterJammed_eq (s : State) (jam : Option JamReason) :
    s.enterJammed jam =
      { s.emptied.offerJam jam with
        runState := .jammed, conditions := (s.emptied.offerJam jam).conditions.setTo .jammed true } := by
  cases jam <;> rfl

theorem State.offerJam_letterWork (s : State) (jam : Option JamReason) : s.LetterWork (s.offerJam jam) := by
  cases jam with
  | none => exact .refl s
  | some r => exact s.enqueue_letterWork _

theorem State.offerJam_idle (s : State) (jam : Option JamReason) (h : s.Idle) : (s.offerJam jam).Idle := by
  cases jam with
  | none => exact h
  | some r => exact s.enqueue_idle _ rfl h

theorem State.enterJammed_lawsKept (s : State) (jam : Option JamReason) (hr : s.runState = .running) :
    s.LawsKept (s.enterJammed jam) := by
  have hwork := s.emptied_letterWork.trans (s.emptied.offerJam_letterWork jam)
  have hidle := s.emptied.offerJam_idle jam s.emptied_idle
  rw [State.enterJammed_eq]
  refine (hwork.toListsKept.trans (State.turned_listsKept _ _ _)).lawsKept fun h => ?_
  exact (hwork.runLaw h (.inl hr)).turned .jammed _ (hwork.joined.trans (State.joined_of_running hr)) (.inr ⟨rfl, hidle⟩)

theorem State.leaveJammed_lawsKept (s : State) (hr : s.runState = .jammed) : s.LawsKept s.leaveJammed :=
  (s.turned_listsKept .running _).lawsKept fun h => h.turned .running _ (State.joined_of_jammed hr) (.inl rfl)

theorem State.joinEnded_lawsKept (s : State) : s.LawsKept s.joinEnded := by
  unfold State.joinEnded
  split
  · rename_i hr
    exact (s.turned_listsKept .running s.conditions).lawsKept fun h =>
      h.turned .running s.conditions (s.joined_iff.mpr (.inl hr)) (.inl rfl)
  · exact .refl s

/-! ### RESET, LOADING and HALTED -/

theorem State.abandonWork_listsKept (s : State) : s.ListsKept s.abandonWork where
  __ := State.LetterWork.refl s
  entries _ := Nat.zero_le _
  frames _ := Nat.zero_le _
  ops k _ := by simp [State.abandonWork, State.pocket, Pocket.dropOps]
  widths _ := Nat.zero_le _
  candidates _ := Nat.zero_le _
  track _ := ⟨List.nodup_nil, nofun, nofun⟩

theorem State.abandonWork_idle (s : State) : s.abandonWork.Idle := by
  refine s.abandonWork.idle_iff.mpr ⟨rfl, rfl, rfl, fun k => ?_, Line.noLetters_of_empty rfl⟩
  simp [State.abandonWork, State.pocket, Pocket.dropOps]

/-- In RESET with a reset signal low, the station that has abandoned its work has nothing else to keep (R163). -/
theorem State.resetEntered_lawsKept (s : State) (pins : Pins) (config : Option StationConfig) (lost halted : Bool)
    (hlow : ¬(pins.powerOk = true ∧ pins.resetHigh = true)) :
    s.LawsKept
      { s.abandonWork with
        runState := .reset, pins := pins, config := config, powerLost := lost, haltedAtEntry := halted } :=
  State.ListsKept.lawsKept { s.abandonWork_listsKept with } fun _ =>
    ⟨iff_of_true rfl hlow, iff_of_true rfl rfl, nofun, nofun, iff_of_false nofun nofun, nofun, fun _ => s.abandonWork_idle,
      iff_of_true rfl rfl⟩

theorem State.fullInit_lawsKept (s : State) (straps : Straps) : s.LawsKept (s.fullInit straps) :=
  ⟨fun _ => State.reset_capacityLaw, fun _ => State.reset_trackLaw, fun _ => State.reset_runLaw⟩

theorem State.retainInit_listsKept (s : State) : s.ListsKept s.retainInit where
  __ := State.LetterWork.refl s
  entries _ := Nat.zero_le _
  frames _ := Nat.zero_le _
  ops k _ := by simp [State.retainInit, State.pocket, Pocket.atReset]
  widths _ := Nat.zero_le _
  candidates _ := Nat.zero_le _
  track _ := ⟨List.nodup_nil, nofun, nofun⟩

theorem State.halt_lawsKept (s : State) (hr : s.runState = .loading) : s.LawsKept s.halt := by
  refine State.ListsKept.lawsKept { State.LetterWork.refl s with } fun h => ?_
  have hup := h.signals_high (by rw [hr]; nofun)
  obtain ⟨-, hline, -, -, -, -, hwork, hcapture⟩ := h
  have hidle := hwork (by rw [hr]; nofun)
  have hinactive := hline.mpr (by simp [State.joined, hr])
  exact ⟨iff_of_false nofun fun hlow => hlow hup, iff_of_true hinactive rfl, nofun, fun _ => rfl, iff_of_false nofun nofun,
    nofun, fun _ => hidle, hcapture⟩

/-! ### The entry into JOINING (R175) -/

/-- The station as it enters JOINING, before its JOIN is queued. -/
def State.joining (s : State) : State :=
  { s with
    runState := .joining, frontEnd := FrontEnd.atReset,
    line := { s.line with state := .waitFree, ackDriven := false, sending := [], queue := [] } }

theorem State.joining_listsKept (s : State) : s.ListsKept s.joining where
  __ := State.LetterWork.refl s
  frames _ := Nat.zero_le _
  widths _ := Nat.zero_le _

/-- A station that enters JOINING is out of RESET, has a configuration, reads no memory and holds no letter. -/
theorem State.joining_runLaw (s : State) (hup : s.pins.powerOk = true ∧ s.pins.resetHigh = true)
    (hconfig : s.config.isSome = true) (hselected : s.loader.selected = false) (hidle : s.Idle) : RunLaw s.joining := by
  have hjoining : s.joining.Idle := hidle.of_same_table rfl rfl rfl (fun k => ⟨hidle.ops k, hidle.drive k⟩)
    (Line.noLetters_of_empty rfl)
  have hunread : ¬s.loader.selected = true := Bool.eq_false_iff.mp hselected
  exact ⟨iff_of_false nofun fun hlow => hlow hup, iff_of_false nofun nofun, fun _ => hconfig, nofun,
    iff_of_false hunread nofun, fun hs => absurd hs hunread, fun _ => hjoining, iff_of_true hidle.scan rfl⟩

theorem State.formAllPockets_letterWork (s : State) : s.LetterWork s.formAllPockets := by
  refine s.pockets_letterWork _ (fun k => ?_) _
  match k with
  | 0 => exact Nat.le_refl _
  | 1 => exact Nat.le_refl _
  | 2 => exact Nat.le_refl _
  | 3 => exact Nat.le_refl _

theorem State.formAllPockets_pocket (s : State) (k : Fin 4) : s.formAllPockets.pocket k = s.reformed k := by
  match k with
  | 0 => rfl
  | 1 => rfl
  | 2 => rfl
  | 3 => rfl

theorem State.formAllPockets_idle (s : State) (h : s.Idle) : s.formAllPockets.Idle := by
  refine h.of_same_table rfl rfl rfl (fun k => ?_) h.noLetters
  rw [State.formAllPockets_pocket]
  exact ⟨h.ops k, h.drive k⟩

theorem State.enterJoining_listsKept (s : State) : s.ListsKept s.enterJoining :=
  (s.joining_listsKept.trans (State.enqueue_letterWork _ _).toListsKept).trans
    (State.formAllPockets_letterWork _).toListsKept

theorem State.enterJoining_runLaw (s : State) (hup : s.pins.powerOk = true ∧ s.pins.resetHigh = true)
    (hconfig : s.config.isSome = true) (hselected : s.loader.selected = false) (hidle : s.Idle) :
    RunLaw s.enterJoining := by
  have hwork := (s.joining.enqueue_letterWork (.join s.cfg.pocketCount s.cfg.crc)).trans
    (State.formAllPockets_letterWork _)
  exact hwork.runLaw (s.joining_runLaw hup hconfig hselected hidle)
    (.inr fun h => State.formAllPockets_idle _ (s.joining.enqueue_idle _ rfl h))

end Sys2Proof.Machine
end

section
/-! PROOF. The commands of the count, the scanner, the photocell and the pockets keep the laws of the capacities, of the table
and of the run states. -/

namespace Sys2Proof.Machine

/-- Whatever the command answers, it leads from s to a state that keeps the three laws. -/
def State.KeepsLaws (s : State) (o : Host.Outcome State Fault Refusal) : Prop := ∀ t, o = .next t → s.LawsKept t

theorem State.KeepsLaws.next {s t : State} (h : s.LawsKept t) : s.KeepsLaws (.next t) := fun _ hu => by
  cases hu
  exact h

theorem State.KeepsLaws.same (s : State) : s.KeepsLaws (.next s) := .next (.refl s)

/-- A command that acts where its event can happen, and otherwise leaves the state as it is (log 4). -/
theorem State.KeepsLaws.guarded {s t : State} {c : Prop} [Decidable c] (h : c → s.LawsKept t) :
    s.KeepsLaws (if c then .next t else .next s) := by
  split
  · rename_i hc
    exact .next (h hc)
  · exact .same s

/-! ### The count, the tach and the points of RUNNING -/

theorem execTachEdge_keepsLaws (s : State) : s.KeepsLaws (execTachEdge s) := by
  unfold execTachEdge
  split
  · exact .same s
  · exact .next (State.LetterWork.lawsKept_of_idle { State.LetterWork.refl s with } id)

theorem execTachStall_keepsLaws (s : State) : s.KeepsLaws (execTachStall s) :=
  .guarded fun _ => State.LetterWork.lawsKept_of_idle { State.LetterWork.refl s with } id

theorem execJamPoint_keepsLaws (s : State) : s.KeepsLaws (execJamPoint s) :=
  .guarded fun h => s.enterJammed_lawsKept _ h.1

theorem execExpiryPoint_keepsLaws (s : State) : s.KeepsLaws (execExpiryPoint s) := by
  unfold execExpiryPoint
  split
  · exact .guarded fun h => (s.expire_letterWork _).lawsKept_of_running h.1
  · exact .same s

theorem execRetirementPoint_keepsLaws (s : State) : s.KeepsLaws (execRetirementPoint s) := by
  unfold execRetirementPoint
  split
  · exact .guarded fun h => (s.retire_letterWork _).lawsKept_of_running h.1
  · exact .same s

theorem execScanClosePoint_keepsLaws (s : State) : s.KeepsLaws (execScanClosePoint s) := by
  unfold execScanClosePoint
  split
  · exact .guarded fun h => s.closeWindow_letterWork.lawsKept_of_running h.1
  · exact .same s

theorem execDecisionPoint_keepsLaws (s : State) : s.KeepsLaws (execDecisionPoint s) := by
  unfold execDecisionPoint
  split
  · exact .guarded fun h => (s.decideEntry_letterWork _).lawsKept_of_running h
  · exact .same s

/-! ### The video -/

theorem length_captureAccepted_le (nf : Nat) (ended : Word) (f : FrontEnd) (h : f.runBuffer.length ≤ maxRun) :
    (captureAccepted nf ended f).runBuffer.length ≤ maxRun := by
  unfold captureAccepted
  split
  · exact h
  · split
    · exact Nat.zero_le _
    · exact h
  · split
    · rename_i hlt
      simpa using hlt
    · exact Nat.zero_le _

theorem captureAccepted_closed_iff (nf : Nat) (ended : Word) (f : FrontEnd) :
    (captureAccepted nf ended f).capture = .closed ↔ f.capture = .closed := by
  unfold captureAccepted
  split
  · exact Iff.rfl
  · rename_i hc
    split
    · simp [hc]
    · exact Iff.rfl
  · rename_i hc
    split
    · exact Iff.rfl
    · simp [hc]

/-- The filter does not touch the capture (R18, R19). -/
theorem filterSample_capture (nf : Nat) (level : Level) (f : FrontEnd) :
    (filterSample nf level f).1.capture = f.capture ∧ (filterSample nf level f).1.runBuffer = f.runBuffer := by
  unfold filterSample
  dsimp only
  split
  · exact ⟨rfl, rfl⟩
  · split <;> exact ⟨rfl, rfl⟩

/-- A sample neither opens nor closes the capture, and the run buffer keeps to its places. -/
theorem sampleStep_capture (nf quiet : Nat) (level : Level) (f : FrontEnd) :
    ((sampleStep nf quiet level f).1.capture = .closed ↔ f.capture = .closed)
      ∧ (f.runBuffer.length ≤ maxRun → (sampleStep nf quiet level f).1.runBuffer.length ≤ maxRun) := by
  obtain ⟨hcapture, hrun⟩ := filterSample_capture nf level f
  unfold sampleStep
  split
  · rename_i g ended hg
    rw [hg] at hcapture hrun
    dsimp only at hcapture hrun
    rw [← hcapture, ← hrun]
    exact ⟨captureAccepted_closed_iff nf ended g, length_captureAccepted_le nf ended g⟩
  · rename_i g hg
    rw [hg] at hcapture hrun
    dsimp only at hcapture hrun
    rw [← hcapture, ← hrun]
    split
    · exact ⟨Iff.rfl, id⟩
    · split
      · rename_i hend
        simp [hend.1]
      · exact ⟨Iff.rfl, id⟩

theorem State.sample_lawsKept (s : State) (high : Bool) : s.LawsKept { s with frontEnd := (s.sample high).1 } := by
  obtain ⟨hcapture, hrun⟩ := sampleStep_capture s.cfg.noiseFilter s.cfg.quiet
    (sampleLevel (effectivePolarity s.straps s.cfg) high) s.frontEnd
  exact State.LetterWork.lawsKept_of_idle
    { State.LetterWork.refl s with widths := hrun, capture := fun h => h.trans hcapture.symm } id

theorem execVideoSample_keepsLaws (high : Bool) (s : State) : s.KeepsLaws (execVideoSample high s) :=
  .guarded fun _ => s.sample_lawsKept high

theorem execNoiseFilterAccept_keepsLaws (high : Bool) (s : State) : s.KeepsLaws (execNoiseFilterAccept high s) :=
  .guarded fun _ => s.sample_lawsKept high

theorem execQuietSeen_keepsLaws (high : Bool) (s : State) : s.KeepsLaws (execQuietSeen high s) :=
  .guarded fun _ => s.sample_lawsKept high

theorem length_offerDecode_le (c : Code) (d : Direction) (cs : List Candidate) (h : cs.length ≤ maxCandidates) :
    (offerDecode c d cs).length ≤ maxCandidates := by
  unfold offerDecode
  split
  · rwa [length_modifyFirst]
  · split
    · rename_i hlt
      simpa using hlt
    · exact h

theorem length_takeRun_le (run : List Word) (r : ScanRecord) (h : r.candidates.length ≤ maxCandidates) :
    (r.takeRun run).candidates.length ≤ maxCandidates := by
  unfold ScanRecord.takeRun
  split
  · split
    · exact length_offerDecode_le _ _ _ h
    · exact h
  · exact h

theorem ScanRecord.takeRun_id (run : List Word) (r : ScanRecord) : (r.takeRun run).id = r.id := by
  unfold ScanRecord.takeRun
  split
  · split <;> rfl
  · rfl

/-- The open record takes something and stays the record of its letter. -/
theorem State.scanMap_letterWork (s : State) (f : ScanRecord → ScanRecord) (hid : ∀ r, (f r).id = r.id)
    (hlen : ∀ r, r.candidates.length ≤ maxCandidates → (f r).candidates.length ≤ maxCandidates) :
    s.LetterWork { s with scan := s.scan.map f } where
  __ := State.LetterWork.refl s
  candidates h := by
    cases hs : s.scan with
    | none => simp [State.candidates]
    | some r =>
      simp only [State.candidates, hs] at h ⊢
      exact hlen r h
  track h := h.of_same_letters rfl rfl (by cases s.scan <;> simp [hid])
  capture h := by simpa using h

theorem State.scanMap_idle (s : State) (f : ScanRecord → ScanRecord) (h : s.Idle) :
    State.Idle { s with scan := s.scan.map f } :=
  h.of_same_table rfl rfl (by simp [h.scan]) (fun k => ⟨h.ops k, h.drive k⟩) h.noLetters

theorem execRunEndByQuiet_keepsLaws (high : Bool) (s : State) : s.KeepsLaws (execRunEndByQuiet high s) := by
  unfold execRunEndByQuiet
  split
  · split
    · rename_i f run hf
      have hsample : s.LawsKept { s with frontEnd := f } := by simpa [hf] using s.sample_lawsKept high
      have htaken := (State.scanMap_letterWork { s with frontEnd := f } _ (ScanRecord.takeRun_id run)
        (length_takeRun_le run)).lawsKept_of_idle (State.scanMap_idle { s with frontEnd := f } _)
      exact .next (hsample.trans htaken)
    · exact .same s
  · exact .same s

theorem execSweepEdge_keepsLaws (s : State) : s.KeepsLaws (execSweepEdge s) := by
  unfold execSweepEdge
  split
  · exact .same s
  · rename_i hopen
    have hsought : s.LetterWork { s with frontEnd := s.frontEnd.seekQuiet } :=
      { State.LetterWork.refl s with
        widths := fun _ => Nat.zero_le _
        capture := fun h => iff_of_false (fun hs => hopen (h.mp hs)) nofun }
    have hcounted := State.scanMap_letterWork { s with frontEnd := s.frontEnd.seekQuiet }
      (fun r => { r with sweeps := satInc r.sweeps }) (fun _ => rfl) (fun _ h => h)
    exact .next ((hsought.trans hcounted).lawsKept_of_idle (s.scanMap_idle _))

/-! ### The photocell -/

theorem execPcellLeadingEdge_keepsLaws (s : State) : s.KeepsLaws (execPcellLeadingEdge s) := by
  have hlevel : s.LetterWork { s with pins := { s.pins with pcellBlocked := true } } :=
    { State.LetterWork.refl s with }
  unfold execPcellLeadingEdge
  dsimp only
  split
  · exact .same s
  · split
    · rename_i hr
      exact .next ((hlevel.trans (State.leadingEdge_letterWork _)).lawsKept_of_running hr)
    · exact .next (hlevel.lawsKept_of_idle id)

theorem execPcellTrailingEdge_keepsLaws (s : State) : s.KeepsLaws (execPcellTrailingEdge s) := by
  have hlevel : s.LetterWork { s with pins := { s.pins with pcellBlocked := false } } :=
    { State.LetterWork.refl s with }
  unfold execPcellTrailingEdge
  dsimp only
  split
  · split
    · rename_i hr
      exact .next ((hlevel.trans (State.trailingEdge_letterWork _)).lawsKept_of_running hr)
    · exact .next (hlevel.lawsKept_of_idle id)
  · exact .same s

/-! ### The gates: an idle station has no operation and no drive for them to act on -/

theorem State.LetterWork.lawsKept_of_not_idle {s t : State} (w : s.LetterWork t) (h : ¬s.Idle) : s.LawsKept t :=
  w.lawsKept_of_idle fun hidle => absurd hidle h

theorem State.not_idle_of_op {s : State} (k : Fin 4) (o : GateOp) (ho : o ∈ (s.pocket k).ops) : ¬s.Idle := fun h => by
  rw [h.ops k] at ho
  cases ho

theorem execFirePoint_keepsLaws (k : Fin 4) (s : State) : s.KeepsLaws (execFirePoint k s) := by
  unfold execFirePoint
  dsimp only
  split
  · rename_i hany
    obtain ⟨o, ho, -⟩ := List.any_eq_true.mp hany
    exact .next ((s.setPocket_letterWork_of_le k _ (Nat.le_of_eq (length_modifyFirst _ _ _))).lawsKept_of_not_idle
      (State.not_idle_of_op k o ho))
  · exact .same s

theorem execPullInExpiry_keepsLaws (k : Fin 4) (s : State) : s.KeepsLaws (execPullInExpiry k s) := by
  unfold execPullInExpiry
  dsimp only
  split
  · rename_i timer hdrive
    have hbusy : ¬s.Idle := fun h => by simp [h.drive k] at hdrive
    split
    · exact .next ((s.setPocket_letterWork_of_le k _ (Nat.le_of_eq (List.length_map _))).lawsKept_of_not_idle hbusy)
    · exact .same s
  · exact .same s

theorem execChopPartExpiry_keepsLaws (k : Fin 4) (s : State) : s.KeepsLaws (execChopPartExpiry k s) := by
  unfold execChopPartExpiry
  dsimp only
  split
  · rename_i on left hdrive
    have hbusy : ¬s.Idle := fun h => by simp [h.drive k] at hdrive
    split
    · refine .next ((s.setPocket_letterWork_of_le k _ ?_).lawsKept_of_not_idle hbusy)
      exact Nat.le_refl _
    · exact .same s
  · exact .same s

theorem length_releasedOps_le (count : Pos) (o : GateOp) (ops : List GateOp) :
    (releasedOps count o ops).length ≤ ops.length := by
  unfold releasedOps
  split
  · exact List.eraseP_sublist.length_le
  · exact Nat.le_of_eq (length_modifyFirst _ _ _)

theorem execReleasePoint_keepsLaws (k : Fin 4) (s : State) : s.KeepsLaws (execReleasePoint k s) := by
  unfold execReleasePoint
  dsimp only
  split
  · exact .same s
  · rename_i o ho
    have hbusy := State.not_idle_of_op k o (List.mem_of_find?_eq_some ho)
    have hreleased (d : Drive) :=
      s.setPocket_letterWork_of_le k { s.pocket k with ops := releasedOps s.tach.count o (s.pocket k).ops, drive := d }
        (length_releasedOps_le _ _ _)
    split
    · exact .next (((hreleased _).trans (State.miss_letterWork _ k _)).lawsKept_of_not_idle hbusy)
    · exact .next ((hreleased _).lawsKept_of_not_idle hbusy)

theorem execConfirmClose_keepsLaws (k : Fin 4) (s : State) : s.KeepsLaws (execConfirmClose k s) := by
  unfold execConfirmClose
  split
  · rename_i o ho
    exact .next ((s.miss_letterWork k o).lawsKept_of_not_idle
      (State.not_idle_of_op k o (List.mem_of_find?_eq_some ho)))
  · exact .same s

/-! ### The inputs of a pocket -/

/-- A pocket changed but for its list and drive, and its state formed anew. -/
theorem State.setAndForm_letterWork (s : State) (k : Fin 4) (p : Pocket) (hops : p.ops = (s.pocket k).ops) :
    s.LetterWork ((s.setPocket k p).formPocket k) :=
  (s.setPocket_letterWork_of_le k p (Nat.le_of_eq (congrArg List.length hops))).trans (State.formPocket_letterWork _ k)

theorem State.setAndForm_idle (s : State) (k : Fin 4) (p : Pocket) (hops : p.ops = (s.pocket k).ops)
    (hdrive : p.drive = (s.pocket k).drive) (h : s.Idle) : ((s.setPocket k p).formPocket k).Idle :=
  State.formPocket_idle _ k (s.setPocket_idle k p (hops.trans (h.ops k)) (hdrive.trans (h.drive k)) h)

theorem State.setAndForm_lawsKept (s : State) (k : Fin 4) (p : Pocket) (hops : p.ops = (s.pocket k).ops)
    (hdrive : p.drive = (s.pocket k).drive) : s.LawsKept ((s.setPocket k p).formPocket k) :=
  (s.setAndForm_letterWork k p hops).lawsKept_of_idle (s.setAndForm_idle k p hops hdrive)

theorem execPentryEdge_keepsLaws (k : Fin 4) (s : State) : s.KeepsLaws (execPentryEdge k s) := by
  have hcounted := s.setAndForm_letterWork k { s.pocket k with tally := satInc (s.pocket k).tally } rfl
  unfold execPentryEdge
  dsimp only
  split
  · split
    · rename_i o ho
      exact .next ((hcounted.trans (State.confirm_letterWork _ k o)).lawsKept_of_not_idle
        (State.not_idle_of_op k o (List.mem_of_find?_eq_some ho)))
    · exact .next ((hcounted.trans (State.latch_letterWork _ _)).lawsKept_of_idle
        (s.setAndForm_idle k { s.pocket k with tally := satInc (s.pocket k).tally } rfl rfl))
  · exact .same s

theorem execPfullChange_keepsLaws (k : Fin 4) (active : Bool) (s : State) : s.KeepsLaws (execPfullChange k active s) := by
  have hlevel : s.LetterWork { s with pins := { s.pins with pfull := s.pins.pfull.set k active } } :=
    { State.LetterWork.refl s with }
  unfold execPfullChange
  dsimp only
  split
  · exact .same s
  · split
    · exact .next ((hlevel.trans (State.formPocket_letterWork _ k)).lawsKept_of_idle fun h => State.formPocket_idle _ k h)
    · exact .next (hlevel.lawsKept_of_idle id)

theorem execPswapActive_keepsLaws (k : Fin 4) (s : State) : s.KeepsLaws (execPswapActive k s) := by
  have hlevel : s.LetterWork { s with pins := { s.pins with pswap := s.pins.pswap.set k true } } :=
    { State.LetterWork.refl s with }
  unfold execPswapActive
  dsimp only
  split
  · exact .same s
  · split
    · refine .next (((hlevel.trans (State.formPocket_letterWork _ k)).trans
        (State.swapCancels_letterWork _ k _)).lawsKept_of_idle fun h => ?_)
      rw [h.ops k]
      exact State.formPocket_idle _ k h
    · exact .next (hlevel.lawsKept_of_idle id)

theorem execPswapInactive_keepsLaws (k : Fin 4) (s : State) : s.KeepsLaws (execPswapInactive k s) := by
  have hlevel : s.LetterWork { s with pins := { s.pins with pswap := s.pins.pswap.set k false } } :=
    { State.LetterWork.refl s with }
  unfold execPswapInactive
  dsimp only
  split
  · split
    · exact .next ((hlevel.lawsKept_of_idle id).trans (State.setAndForm_lawsKept _ k _ rfl rfl))
    · exact .next (hlevel.lawsKept_of_idle id)
  · exact .same s

end Sys2Proof.Machine
end

section
/-! PROOF. The line's events and the received frames keep the laws of the capacities, of the table and of the run
states. -/

namespace Sys2Proof.Machine

/-! ### The line's events -/

/-- From l to m the queue grows by no frame, none turns into a letter frame, and the line stays active or inactive. -/
structure Line.Follows (l m : Line) : Prop where
  frames : m.queue.length ≤ l.queue.length
  letters : l.NoLetters → m.NoLetters
  inactive : m.state = .inactive ↔ l.state = .inactive

theorem Line.Follows.refl (l : Line) : l.Follows l := ⟨Nat.le_refl _, fun h => h, Iff.rfl⟩

theorem Line.Follows.trans {l m n : Line} (h : l.Follows m) (k : m.Follows n) : l.Follows n where
  frames := Nat.le_trans k.frames h.frames
  letters := k.letters ∘ h.letters
  inactive := k.inactive.trans h.inactive

theorem Line.Follows.lawsKept {s : State} {m : Line} (h : s.line.Follows m) (c : Conditions) :
    s.LawsKept { s with line := m, conditions := c } :=
  State.LetterWork.lawsKept_of_idle
    { State.LetterWork.refl s with frames := Nat.le_trans h.frames, inactive := h.inactive } fun hidle =>
    hidle.of_same_table rfl rfl rfl (fun k => ⟨hidle.ops k, hidle.drive k⟩) (h.letters hidle.noLetters)

/-- The queue of part of the frames. -/
theorem Line.follows_of_sublist (l : Line) (q : List QueuedFrame) (hq : q.Sublist l.queue) :
    l.Follows { l with queue := q } where
  __ := Line.Follows.refl l
  frames := hq.length_le
  letters h x hx := h x (hq.subset hx)

theorem Line.follows_map (l : Line) (f : QueuedFrame → QueuedFrame) (hf : ∀ q, (f q).frame = q.frame) :
    l.Follows { l with queue := l.queue.map f } where
  __ := Line.Follows.refl l
  frames := Nat.le_of_eq (List.length_map _)
  letters := noLetters_map _ f hf

theorem dropInFlight_follows (l : Line) : l.Follows (dropInFlight l) := l.follows_of_sublist _ List.filter_sublist

theorem keepInFlight_follows (l : Line) (f : QueuedFrame → QueuedFrame) (hf : ∀ q, (f q).frame = q.frame) :
    l.Follows (keepInFlight f l) :=
  l.follows_map _ fun q => by
    split
    · exact hf q
    · rfl

theorem startAttempt_follows (s : State) (w : Line × Conditions) (hw : w.1.state ≠ .inactive) :
    w.1.Follows (startAttempt s w).1 where
  frames := length_startAttempt_le s w
  letters := startAttempt_noLetters s w
  inactive := iff_of_false (startAttempt_active s w hw) hw

theorem Line.follows_discards (l : Line) (n : Byte) : l.Follows { l with discards := n } :=
  { Line.Follows.refl l with }

/-- The line turns from one active state to another. -/
theorem Line.follows_of_active (l : Line) (state : LineState) (sof : Pos) (ack : Bool) (bytes : List Byte)
    (hl : l.state ≠ .inactive) (hs : state ≠ .inactive) :
    l.Follows { l with state := state, sofTach := sof, ackDriven := ack, sending := bytes } where
  __ := Line.Follows.refl l
  inactive := iff_of_false hs hl

theorem execBusFree_keepsLaws (s : State) : s.KeepsLaws (execBusFree s) := by
  unfold execBusFree
  dsimp only
  split
  · rename_i hw
    have hfree := s.line.follows_of_active .free s.line.sofTach false s.line.sending (by rw [hw]; nofun) nofun
    exact .next ((hfree.trans (startAttempt_follows s (_, s.conditions) nofun)).lawsKept _)
  · exact .same s

theorem execStartOfFrame_keepsLaws (highCells : Nat) (s : State) : s.KeepsLaws (execStartOfFrame highCells s) := by
  unfold execStartOfFrame
  split
  · rename_i ha
    have hl : s.line.state ≠ .inactive := fun h => by simp [startAccepted, h] at ha
    exact .next ((s.line.follows_of_active (.inFrame .receiver) s.tach.count false s.line.sending hl nofun).lawsKept
      s.conditions)
  · exact .same s

theorem State.loseArbitration_lawsKept (s : State) : s.LawsKept s.loseArbitration := by
  unfold State.loseArbitration
  split
  · exact .refl s
  · split
    · exact ((dropInFlight_follows s.line).trans (Line.follows_discards _ _)).lawsKept _
    · exact (keepInFlight_follows s.line id fun _ => rfl).lawsKept s.conditions

theorem State.failAttempt_lawsKept (s : State) : s.LawsKept s.failAttempt := by
  have hdiscarded (n : Byte) (c : Conditions) :
      s.LawsKept { s with line := { dropInFlight s.line with discards := n }, conditions := c } :=
    ((dropInFlight_follows s.line).trans (Line.follows_discards _ _)).lawsKept c
  have hkept (f : QueuedFrame → QueuedFrame) (hf : ∀ q, (f q).frame = q.frame) :
      s.LawsKept { s with line := keepInFlight f s.line } := (keepInFlight_follows s.line f hf).lawsKept s.conditions
  unfold State.failAttempt
  split
  · exact .refl s
  · split
    · exact hkept _ fun _ => rfl
    · split
      · dsimp only
        split
        · exact (hdiscarded _ _).trans (State.joinEnded_lawsKept _)
        · exact hdiscarded _ _
      · split
        · exact hdiscarded _ _
        · exact hkept _ fun _ => rfl

theorem State.enqueue_lawsKept (s : State) (f : Frame) (hf : isLetterFrame f = false) : s.LawsKept (s.enqueue f) :=
  (s.enqueue_letterWork f).lawsKept_of_idle (s.enqueue_idle f hf)

theorem State.ackAttempt_lawsKept (s : State) : s.LawsKept s.ackAttempt := by
  have hdropped (c : Conditions) : s.LawsKept { s with line := dropInFlight s.line, conditions := c } :=
    (dropInFlight_follows s.line).lawsKept c
  unfold State.ackAttempt
  dsimp only
  split
  · exact hdropped _
  · split
    · split
      · exact (hdropped _).trans (State.enqueue_lawsKept _ _ rfl)
      · exact hdropped _
    · split
      · exact (hdropped _).trans (State.joinEnded_lawsKept _)
      · exact hdropped _

theorem Line.active_of_inFrame {l : Line} {role : FrameRole} (h : l.state = .inFrame role) : l.state ≠ .inactive := by
  rw [h]
  nofun

theorem execArbitrationLost_keepsLaws (s : State) : s.KeepsLaws (execArbitrationLost s) := by
  unfold execArbitrationLost
  split
  · rename_i h
    have hlost := (s.line.follows_of_active (.inFrame .receiver) s.line.sofTach s.line.ackDriven []
      (Line.active_of_inFrame h) nofun).lawsKept s.conditions
    exact .next (hlost.trans (State.loseArbitration_lawsKept _))
  · exact .same s

/-- The attempt is over and the line waits for bus free. -/
theorem State.attemptOver_lawsKept (s : State) (h : s.line.state = .inFrame .sender) :
    s.LawsKept { s with line := { s.line with state := .waitFree, sending := [] } } :=
  (s.line.follows_of_active .waitFree s.line.sofTach s.line.ackDriven [] (Line.active_of_inFrame h) nofun).lawsKept
    s.conditions

theorem execBitError_keepsLaws (s : State) : s.KeepsLaws (execBitError s) :=
  .guarded fun h => (s.attemptOver_lawsKept h).trans (State.failAttempt_lawsKept _)

theorem execAttemptEnd_keepsLaws (acked : Bool) (s : State) : s.KeepsLaws (execAttemptEnd acked s) := by
  unfold execAttemptEnd
  dsimp only
  split
  · rename_i h
    split
    · exact .next ((s.attemptOver_lawsKept h).trans (State.ackAttempt_lawsKept _))
    · exact .next ((s.attemptOver_lawsKept h).trans (State.failAttempt_lawsKept _))
  · exact .same s

theorem noLetters_modifyFirst (p : QueuedFrame → Bool) (f : QueuedFrame → QueuedFrame) (l : List QueuedFrame)
    (hf : ∀ q, (f q).frame = q.frame) (h : ∀ x ∈ l, isLetterFrame x.frame = false) :
    ∀ x ∈ modifyFirst p f l, isLetterFrame x.frame = false := by
  induction l with
  | nil => exact h
  | cons y ys ih =>
    obtain ⟨hy, hys⟩ := List.forall_mem_cons.mp h
    unfold modifyFirst
    split
    · exact List.forall_mem_cons.mpr ⟨by rwa [hf], hys⟩
    · exact List.forall_mem_cons.mpr ⟨hy, ih hys⟩

theorem execSightStalePoint_keepsLaws (s : State) : s.KeepsLaws (execSightStalePoint s) := by
  unfold execSightStalePoint
  split
  · exact .same s
  · dsimp only
    split
    · have hmarked : s.line.Follows
          { s.line with
            queue := modifyFirst (staleDue s.tach.count) (fun x => { x with staleReached := true }) s.line.queue } :=
        { Line.Follows.refl s.line with
          frames := Nat.le_of_eq (length_modifyFirst _ _ _), letters := noLetters_modifyFirst _ _ _ fun _ => rfl }
      exact .next (hmarked.lawsKept s.conditions)
    · exact .next (((s.line.follows_of_sublist _ List.eraseP_sublist).trans (Line.follows_discards _ _)).lawsKept _)

theorem execBrokenFrame_keepsLaws (cells : List Bool) (s : State) : s.KeepsLaws (execBrokenFrame cells s) := by
  unfold execBrokenFrame
  split
  · split
    · rename_i h
      have hr : s.line.state = .inFrame .receiver := by simpa [State.receiving] using h
      exact .next ((s.line.follows_of_active .waitFree s.line.sofTach s.line.ackDriven s.line.sending
        (Line.active_of_inFrame hr) nofun).lawsKept s.conditions)
    · exact .same s
  · exact .same s

/-! ### Received frames -/

theorem State.acknowledge_lawsKept (s : State) (h : s.line.state = .inFrame .receiver) : s.LawsKept s.acknowledge :=
  (s.line.follows_of_active .waitFree s.line.sofTach true s.line.sending (Line.active_of_inFrame h) nofun).lawsKept
    s.conditions

theorem State.testSender_lawsKept (s : State) (h : Header) : s.LawsKept (s.testSender h) :=
  (Line.Follows.refl s.line).lawsKept _

/-- What the acknowledge and the tests of R161 leave, the owning block takes. -/
theorem State.receiveOrHandOn_lawsKept (s : State) (h : Header) (owner : State → State)
    (howner : ∀ t : State, t.LawsKept (owner t)) : s.LawsKept (s.receiveOrHandOn h owner) := by
  rcases receiveOrHandOn_cases s h owner with ⟨heq, -⟩ | ⟨hr, heq, -⟩ | ⟨t, ⟨-, -, hfrom⟩, heq⟩
  · rw [heq]
    exact .refl s
  · rw [heq]
    exact (s.acknowledge_lawsKept hr).trans (State.testSender_lawsKept _ h)
  · rw [heq]
    rcases hfrom with ⟨hr, rfl⟩ | ⟨-, rfl⟩
    · exact (s.acknowledge_lawsKept hr).trans (howner _)
    · exact howner _

theorem State.receive_lawsKept (s : State) (h : Header) (owner : State → State)
    (howner : ∀ t : State, t.LawsKept (owner t)) : s.LawsKept (s.receive h owner) := by
  unfold State.receive
  split
  · rename_i hr
    have htested := (s.acknowledge_lawsKept (by simpa [State.receiving] using hr)).trans
      (State.testSender_lawsKept s.acknowledge h)
    dsimp only
    split
    · exact htested
    · exact htested.trans (howner _)
  · exact .refl s

/-- A letter frame acts in RUNNING only. -/
theorem State.LetterWork.lawsKept_of_takesFrom {s t : State} (w : s.LetterWork t) (h : Header)
    (hout : s.takesFrom h = false → t = s) : s.LawsKept t := by
  cases ht : s.takesFrom h with
  | false =>
    rw [hout ht]
    exact .refl s
  | true =>
    have hr : s.runState = .running := by
      simp only [State.takesFrom, Bool.and_eq_true, beq_iff_eq] at ht
      exact ht.1
    exact w.lawsKept_of_running hr

theorem State.takeJam_lawsKept (s : State) : s.LawsKept s.takeJam := by
  unfold State.takeJam
  split
  · rename_i hr
    exact s.enterJammed_lawsKept _ hr
  · exact .refl s

theorem State.takeClear_lawsKept (s : State) : s.LawsKept s.takeClear := by
  unfold State.takeClear
  split
  · rename_i hr
    split
    · exact s.enqueue_lawsKept _ rfl
    · split
      · exact s.leaveJammed_lawsKept hr
      · exact s.enqueue_lawsKept _ rfl
  · exact .refl s

theorem State.takePoll_lawsKept (s : State) (target : Byte) : s.LawsKept (s.takePoll target) := by
  unfold State.takePoll
  split
  · exact s.enqueue_lawsKept _ rfl
  · exact .refl s

theorem execJamReceived_keepsLaws (h : Header) (reason : Byte) (s : State) : s.KeepsLaws (execJamReceived h reason s) :=
  .next (s.receiveOrHandOn_lawsKept h _ State.takeJam_lawsKept)

theorem execClearReceived_keepsLaws (h : Header) (s : State) : s.KeepsLaws (execClearReceived h s) :=
  .next (s.receiveOrHandOn_lawsKept h _ State.takeClear_lawsKept)

theorem execClaimReceived_keepsLaws (h : Header) (id : LetterId) (pocket : Byte) (s : State) :
    s.KeepsLaws (execClaimReceived h id pocket s) :=
  .next (s.receiveOrHandOn_lawsKept h _ fun t =>
    (t.takeClaim_letterWork h id pocket).lawsKept_of_takesFrom h fun hf => by simp [State.takeClaim, hf])

theorem execReleaseReceived_keepsLaws (h : Header) (id : LetterId) (pocket reason : Byte) (s : State) :
    s.KeepsLaws (execReleaseReceived h id pocket reason s) :=
  .next (s.receiveOrHandOn_lawsKept h _ fun t =>
    (t.takeRelease_letterWork h id pocket).lawsKept_of_takesFrom h fun hf => by simp [State.takeRelease, hf])

theorem execDivertedReceived_keepsLaws (h : Header) (id : LetterId) (pocket : Byte) (tally : Word) (s : State) :
    s.KeepsLaws (execDivertedReceived h id pocket tally s) :=
  .next (s.receiveOrHandOn_lawsKept h _ fun t =>
    (t.takeDiverted_letterWork h id).lawsKept_of_takesFrom h fun hf => by simp [State.takeDiverted, hf])

theorem execSightReceived_keepsLaws (h : Header) (id : LetterId) (age length : Word) (s : State) :
    s.KeepsLaws (execSightReceived h id age length s) :=
  .next (s.receive_lawsKept h _ fun t =>
    (t.takeSight_letterWork h id age length).lawsKept_of_takesFrom h fun hf => by simp [State.takeSight, hf])

theorem execReadReceived_keepsLaws (h : Header) (id : LetterId) (outcome quality sweeps : Byte) (code : Option Code)
    (s : State) : s.KeepsLaws (execReadReceived h id outcome quality sweeps code s) :=
  .next (s.receiveOrHandOn_lawsKept h _ fun t =>
    (t.takeRead_letterWork h id outcome quality code).lawsKept_of_takesFrom h fun hf => by
      simp [State.takeRead, hf])

theorem execLostReceived_keepsLaws (h : Header) (id : LetterId) (s : State) : s.KeepsLaws (execLostReceived h id s) :=
  .next (s.receiveOrHandOn_lawsKept h _ fun t =>
    (t.takeLost_letterWork h id).lawsKept_of_takesFrom h fun hf => by simp [State.takeLost, hf])

theorem execPollReceived_keepsLaws (h : Header) (target : Byte) (s : State) : s.KeepsLaws (execPollReceived h target s) :=
  .next (s.receiveOrHandOn_lawsKept h _ fun t => t.takePoll_lawsKept target)

theorem execJoinReceived_keepsLaws (h : Header) (pockets : Byte) (crc : Word) (s : State) :
    s.KeepsLaws (execJoinReceived h pockets crc s) :=
  .next (s.receive_lawsKept h _ .refl)

theorem execIgnoredFrameReceived_keepsLaws (h : Header) (kind : BitVec 4) (body : List Byte) (s : State) :
    s.KeepsLaws (execIgnoredFrameReceived h kind body s) :=
  .guarded fun _ => s.receive_lawsKept h _ .refl

end Sys2Proof.Machine
end

section
/-! PROOF. The commands of the Supervisor keep the laws of the capacities, of the table and of the run states; so
does every step. -/

namespace Sys2Proof.Machine

/-! ### STOP and RESUME -/

theorem execStopPress_keepsLaws (s : State) : s.KeepsLaws (execStopPress s) := by
  have hlevel (b : Bool) : s.LawsKept { s with pins := { s.pins with stopHigh := false }, stopReleased := b } :=
    State.LetterWork.lawsKept_of_idle { State.LetterWork.refl s with } id
  unfold execStopPress
  dsimp only
  split
  · split
    · split
      · rename_i hr
        exact .next ((hlevel false).trans (State.enterJammed_lawsKept _ _ hr))
      · exact .next (hlevel false)
    · exact .next (hlevel s.stopReleased)
  · exact .same s

theorem execStopRelease_keepsLaws (s : State) : s.KeepsLaws (execStopRelease s) := by
  unfold execStopRelease
  dsimp only
  split
  · exact .same s
  · split
    · exact .next (State.LetterWork.lawsKept_of_idle { State.LetterWork.refl s with } id)
    · exact .next (State.LetterWork.lawsKept_of_idle { State.LetterWork.refl s with } id)

theorem execResumePress_keepsLaws (s : State) : s.KeepsLaws (execResumePress s) :=
  .guarded fun h => (s.enqueue_lawsKept .clear rfl).trans (State.leaveJammed_lawsKept _ h.1)

/-! ### Resets -/

theorem execResetEntry_keepsLaws (signal : ResetSignal) (s : State) : s.KeepsLaws (execResetEntry signal s) := by
  unfold execResetEntry
  dsimp only
  split
  · split
    · exact .next (s.resetEntered_lawsKept _ _ _ _ (by simp))
    · exact .same s
  · split
    · exact .next (s.resetEntered_lawsKept _ _ _ _ (by simp))
    · exact .same s

theorem execPowerOkRiseInReset_keepsLaws (straps : Straps) (s : State) :
    s.KeepsLaws (execPowerOkRiseInReset straps s) := by
  unfold execPowerOkRiseInReset
  split
  · rename_i hin
    obtain ⟨hr, -, hlow⟩ := hin
    refine .next (State.ListsKept.lawsKept { State.LetterWork.refl s with } fun h => ?_)
    obtain ⟨-, hrest⟩ := h
    exact ⟨iff_of_true hr (by simp [hlow]), hrest⟩
  · exact .same s

/-- A retain reset is one of a station with a configuration (R164). -/
theorem config_of_retain (s : State) (retain : Bool) (h : resetKind s retain = .retain) : s.config.isSome = true := by
  unfold resetKind at h
  split at h
  · cases h
  · split at h
    · rename_i hk
      simp only [Bool.and_eq_true] at hk
      obtain ⟨⟨-, hconfig⟩, -⟩ := hk
      exact hconfig
    · cases h

theorem State.retainInit_idle (s : State) : s.retainInit.Idle := by
  refine s.retainInit.idle_iff.mpr ⟨rfl, rfl, rfl, fun k => ?_, Line.noLetters_of_empty rfl⟩
  simp [State.retainInit, State.pocket, Pocket.atReset]

theorem execResetRelease_keepsLaws (straps : Straps) (retain : Bool) (s : State) :
    s.KeepsLaws (execResetRelease straps retain s) := by
  unfold execResetRelease
  split
  · split
    · exact .next (s.fullInit_lawsKept _)
    · exact .next (s.fullInit_lawsKept _)
    · rename_i hk
      exact .next ((s.retainInit_listsKept.trans (State.enterJoining_listsKept _)).lawsKept fun _ =>
        State.enterJoining_runLaw _ ⟨rfl, rfl⟩ (config_of_retain s retain hk) rfl s.retainInit_idle)
  · exact .same s

/-! ### The configuration read -/

theorem execHeaderByteCheck_keepsLaws (byte : Byte) (s : State) : s.KeepsLaws (execHeaderByteCheck byte s) := by
  unfold execHeaderByteCheck
  split
  · rename_i h
    split
    · exact .next (State.LetterWork.lawsKept_of_idle { State.LetterWork.refl s with } id)
    · exact .next (s.halt_lawsKept h.1)
  · exact .same s

/-- The station that has taken its image, before it enters JOINING (R174). -/
def State.loaded (s : State) (image : List Byte) (crc : Word) : State :=
  { s with
    config := some (loadedConfig image crc),
    loader := { selected := false, sent := s.loader.sent, header := [] },
    conditions :=
      (s.conditions.setTo .configClamped (imageClamped image)).setTo .pocketDisabled (imageDisables image) }

theorem State.completeLoad_eq (s : State) (image : List Byte) (crc : Word) :
    s.completeLoad image crc = (s.loaded image crc).enterJoining := rfl

theorem State.loaded_listsKept (s : State) (image : List Byte) (crc : Word) : s.ListsKept (s.loaded image crc) :=
  { State.LetterWork.refl s with }

theorem State.completeLoad_lawsKept (s : State) (image : List Byte) (crc : Word) (hr : s.runState = .loading) :
    s.LawsKept (s.completeLoad image crc) := by
  rw [State.completeLoad_eq]
  refine ((s.loaded_listsKept image crc).trans (State.enterJoining_listsKept _)).lawsKept fun h => ?_
  have hup := h.signals_high (by rw [hr]; nofun)
  obtain ⟨-, -, -, -, -, -, hwork, -⟩ := h
  exact State.enterJoining_runLaw _ hup rfl rfl (hwork (by rw [hr]; nofun))

theorem execConfigReadComplete_keepsLaws (rest : List Byte) (s : State) : s.KeepsLaws (execConfigReadComplete rest s) := by
  unfold execConfigReadComplete
  dsimp only
  split
  · rename_i h
    split
    · exact .next (s.completeLoad_lawsKept _ _ h.1)
    · exact .next (s.halt_lawsKept h.1)
  · exact .same s

/-! ### Every step -/

/-- Each command keeps the laws, by the lemma of its row. -/
theorem exec_keepsLaws (c : Instr) (s : State) : s.KeepsLaws (exec c s) := by
  cases c
  case tachEdge => exact execTachEdge_keepsLaws s
  case tachStall => exact execTachStall_keepsLaws s
  case noiseFilterAccept high => exact execNoiseFilterAccept_keepsLaws high s
  case quietSeen high => exact execQuietSeen_keepsLaws high s
  case runEndByQuiet high => exact execRunEndByQuiet_keepsLaws high s
  case sweepEdge => exact execSweepEdge_keepsLaws s
  case pcellLeadingEdge => exact execPcellLeadingEdge_keepsLaws s
  case pcellTrailingEdge => exact execPcellTrailingEdge_keepsLaws s
  case jamPoint => exact execJamPoint_keepsLaws s
  case expiryPoint => exact execExpiryPoint_keepsLaws s
  case retirementPoint => exact execRetirementPoint_keepsLaws s
  case scanClosePoint => exact execScanClosePoint_keepsLaws s
  case decisionPoint => exact execDecisionPoint_keepsLaws s
  case firePoint k => exact execFirePoint_keepsLaws k s
  case pullInExpiry k => exact execPullInExpiry_keepsLaws k s
  case chopPartExpiry k => exact execChopPartExpiry_keepsLaws k s
  case releasePoint k => exact execReleasePoint_keepsLaws k s
  case confirmClose k => exact execConfirmClose_keepsLaws k s
  case pentryEdge k => exact execPentryEdge_keepsLaws k s
  case pfullChange k active => exact execPfullChange_keepsLaws k active s
  case pswapActive k => exact execPswapActive_keepsLaws k s
  case pswapInactive k => exact execPswapInactive_keepsLaws k s
  case busFree => exact execBusFree_keepsLaws s
  case startOfFrame highCells => exact execStartOfFrame_keepsLaws highCells s
  case arbitrationLost => exact execArbitrationLost_keepsLaws s
  case bitError => exact execBitError_keepsLaws s
  case attemptEnd acked => exact execAttemptEnd_keepsLaws acked s
  case sightStalePoint => exact execSightStalePoint_keepsLaws s
  case brokenFrame cells => exact execBrokenFrame_keepsLaws cells s
  case jamReceived h reason => exact execJamReceived_keepsLaws h reason s
  case clearReceived h => exact execClearReceived_keepsLaws h s
  case claimReceived h id pocket => exact execClaimReceived_keepsLaws h id pocket s
  case releaseReceived h id pocket reason => exact execReleaseReceived_keepsLaws h id pocket reason s
  case divertedReceived h id pocket tally => exact execDivertedReceived_keepsLaws h id pocket tally s
  case sightReceived h id age length => exact execSightReceived_keepsLaws h id age length s
  case readReceived h id outcome quality sweeps code => exact execReadReceived_keepsLaws h id outcome quality sweeps code s
  case lostReceived h id => exact execLostReceived_keepsLaws h id s
  case pollReceived h target => exact execPollReceived_keepsLaws h target s
  case joinReceived h pockets crc => exact execJoinReceived_keepsLaws h pockets crc s
  case ignoredFrameReceived h kind body => exact execIgnoredFrameReceived_keepsLaws h kind body s
  case stopPress => exact execStopPress_keepsLaws s
  case stopRelease => exact execStopRelease_keepsLaws s
  case resumePress => exact execResumePress_keepsLaws s
  case resetEntry signal => exact execResetEntry_keepsLaws signal s
  case powerOkRiseInReset straps => exact execPowerOkRiseInReset_keepsLaws straps s
  case resetRelease straps retain => exact execResetRelease_keepsLaws straps retain s
  case headerByteCheck byte => exact execHeaderByteCheck_keepsLaws byte s
  case configReadComplete rest => exact execConfigReadComplete_keepsLaws rest s
  case videoSample high => exact execVideoSample_keepsLaws high s

/-- A microsecond runs the timers down; a drive that is OFF stays OFF. -/
theorem State.tick_lawsKept (s : State) : s.LawsKept s.tick := by
  unfold State.tick
  split
  · exact .refl s
  · refine State.LetterWork.lawsKept_of_idle { State.LetterWork.refl s with ops := fun k h => ?_ } fun h => ?_
    · simpa [State.pocket] using h
    · refine h.of_same_table rfl rfl rfl (fun k => ?_) h.noLetters
      have hops := h.ops k
      have hdrive := h.drive k
      simp only [State.pocket] at hops hdrive
      simp [State.pocket, hops, hdrive, Drive.tick]

theorem step_keepsLaws (s : State) : s.KeepsLaws (step s) := by
  cases hp : s.pending with
  | nil =>
    rw [step_of_idle s hp]
    exact .next s.tick_lawsKept
  | cons c cs =>
    rw [step_of_pending s c cs hp]
    have htaken : s.LawsKept { s with pending := cs } := ⟨fun h => h, fun h => h, fun h => h⟩
    exact fun t ht => htaken.trans (exec_keepsLaws c _ t ht)

/-- Settles O55: the two laws of the lists are two of the three that a step keeps. -/
theorem stepKeepsCapacitiesAndTable : Obligations.StepKeepsCapacitiesAndTable := by
  unfold Obligations.StepKeepsCapacitiesAndTable
  exact fun s t h => ⟨(step_keepsLaws s t h).capacity, (step_keepsLaws s t h).track⟩

/-- Settles O58: the law of the run states is the third. -/
theorem stepKeepsRunStateLaw : Obligations.StepKeepsRunStateLaw := by
  unfold Obligations.StepKeepsRunStateLaw
  exact fun s t h => (step_keepsLaws s t h).run

end Sys2Proof.Machine
end

section
/-! PROOF. The digits of a return code and its check digit (R32). -/

namespace Sys2Proof.Machine

theorem codeDigit_lt (c : Code) (i : Nat) : codeDigit c i < 16 := Nat.mod_lt _ (by decide)

theorem checkDigitPasses_iff (c : Code) : checkDigitPasses c = true ↔ weightedSum c % 16 = 0 := by
  simp [checkDigitPasses]

/-- The weight of R32: 3 at an even place, 1 at an odd one; D11 stands at an odd place. -/
def digitWeight (i : Nat) : Nat := if i % 2 = 0 then 3 else 1

theorem digitWeight_cases (i : Nat) : digitWeight i = 1 ∨ digitWeight i = 3 := by
  unfold digitWeight
  split <;> simp

theorem weightedSum_eq_sum (c : Code) : weightedSum c = ∑ i ∈ Finset.range 12, digitWeight i * codeDigit c i := by
  simp [weightedSum, digitWeight, Finset.sum_range_succ]
  omega

/-- The sum with the share of one digit apart from that of the others. -/
theorem weightedSum_split (c : Code) {i : Nat} (hi : i < 12) :
    weightedSum c =
      digitWeight i * codeDigit c i + ∑ j ∈ (Finset.range 12).erase i, digitWeight j * codeDigit c j := by
  rw [weightedSum_eq_sum]
  exact (Finset.add_sum_erase _ _ (Finset.mem_range.mpr hi)).symm

/-- A weight is a unit modulo 16, so one digit's share tells the digit. -/
theorem digit_eq_of_weighted (w rest a b : Nat) (hw : w = 1 ∨ w = 3) (ha : a < 16) (hb : b < 16)
    (hsa : (w * a + rest) % 16 = 0) (hsb : (w * b + rest) % 16 = 0) : a = b := by
  rcases hw with rfl | rfl <;> omega

theorem checkDigit_finds_error (c d : Code) (i : Nat) (hc : checkDigitPasses c = true) (hi : i < 12)
    (hne : codeDigit d i ≠ codeDigit c i) (hrest : ∀ j, j < 12 → j ≠ i → codeDigit d j = codeDigit c j) :
    checkDigitPasses d = false := by
  refine Bool.eq_false_iff.mpr fun hd => hne ?_
  have hothers : ∑ j ∈ (Finset.range 12).erase i, digitWeight j * codeDigit d j =
      ∑ j ∈ (Finset.range 12).erase i, digitWeight j * codeDigit c j :=
    Finset.sum_congr rfl fun j hj => by
      obtain ⟨hji, hj12⟩ := Finset.mem_erase.mp hj
      rw [hrest j (Finset.mem_range.mp hj12) hji]
  rw [checkDigitPasses_iff, weightedSum_split _ hi] at hc hd
  rw [hothers] at hd
  exact digit_eq_of_weighted _ _ _ _ (digitWeight_cases i) (codeDigit_lt d i) (codeDigit_lt c i) hd hc

/-- Settles O10: the sum as defined, and the error by the weights, each a unit modulo 16. -/
theorem checkDigitFindsOneError : Obligations.CheckDigitFindsOneError := by
  unfold Obligations.CheckDigitFindsOneError
  exact ⟨fun c => ⟨fun _ => rfl, checkDigitPasses_iff c⟩, checkDigit_finds_error⟩

end Sys2Proof.Machine
end

section
/-! PROOF. What section 3.2 prints, and what the decoder makes of it from either end (R34 to R40). -/

namespace Sys2Proof.Machine

/-! ### The digits of a code make the code -/

/-- One digit taken into the code (R40). -/
theorem shiftIn_digit (a d : Nat) (hd : d < 16) :
    (BitVec.ofNat 48 a <<< 4) ||| BitVec.ofNat 48 d = BitVec.ofNat 48 (16 * a + d) := by
  have hshift : BitVec.ofNat 48 a <<< 4 = BitVec.ofNat 48 (a <<< 4) := by
    rw [BitVec.shiftLeft_eq_mul_twoPow, Nat.shiftLeft_eq, BitVec.ofNat_mul]
    rfl
  rw [hshift, ← BitVec.ofNat_or, ← Nat.shiftLeft_add_eq_or_of_lt (by simpa using hd), Nat.shiftLeft_eq, Nat.mul_comm]

/-- The first n digits make the code's top n nibbles. -/
theorem codeOfDigits_firstDigits (c : Code) (n : Nat) (hn : n ≤ 12) :
    codeOfDigits ((List.range n).map (codeDigit c)) = BitVec.ofNat 48 (c.toNat / 16 ^ (12 - n)) := by
  induction n with
  | zero =>
    have hc : c.toNat / 16 ^ 12 = 0 := Nat.div_eq_of_lt c.isLt
    rw [Nat.sub_zero, hc]
    rfl
  | succ n ih =>
    have hstep : codeOfDigits ((List.range (n + 1)).map (codeDigit c)) =
        (codeOfDigits ((List.range n).map (codeDigit c)) <<< 4) ||| BitVec.ofNat 48 (codeDigit c n) := by
      simp [codeOfDigits, List.range_succ]
    have hpow : 12 - n = 11 - n + 1 := by omega
    have hexp : 12 - (n + 1) = 11 - n := by omega
    rw [hstep, ih (by omega), shiftIn_digit _ _ (codeDigit_lt c n), hexp, hpow, pow_succ, ← Nat.div_div_eq_div_mul]
    exact congrArg _ (Nat.div_add_mod _ 16)

theorem codeOfDigits_codeDigit (c : Code) : codeOfDigits ((List.range 12).map (codeDigit c)) = c := by
  simpa using codeOfDigits_firstDigits c 12 (le_refl 12)

/-! ### Symbols in modules and in samples -/

/-- The four elements of a symbol, as they are scanned. -/
def SymbolWidths.elements (x : SymbolWidths) : List Nat := [x.w0, x.w1, x.w2, x.w3]

/-- The symbol whose every element is m times as wide. -/
def SymbolWidths.scale (m : Nat) (x : SymbolWidths) : SymbolWidths := ⟨m * x.w0, m * x.w1, m * x.w2, m * x.w3⟩

/-- The module counts of a printed symbol: eight modules in elements of one to three (section 3.2). -/
def SymbolWidths.Printable (x : SymbolWidths) : Prop := x.total = 8 ∧ ∀ n ∈ x.elements, countInRange n = true

theorem SymbolWidths.total_scale (m : Nat) (x : SymbolWidths) : (x.scale m).total = m * x.total := by
  simp only [SymbolWidths.total, SymbolWidths.scale, Nat.mul_add]

/-- Grouping takes the symbols apart that were put together (R35). -/
theorem groupSymbols_flatMap (xs : List SymbolWidths) (w : Nat) :
    groupSymbols (xs.flatMap SymbolWidths.elements ++ [w]) = (xs, [w]) := by
  induction xs with
  | nil => rfl
  | cons x xs ih => simp [SymbolWidths.elements, groupSymbols, ih]

/-- A width of n modules in a symbol of eight is classified as n modules, whatever the module (R36). -/
theorem moduleCount_printed (m n : Nat) (hm : 1 ≤ m) : moduleCount (m * n) (m * 8) = n := by
  have hnum : 16 * (m * n) + m * 8 = m * 8 * (2 * n + 1) := by ring
  have hden : 2 * (m * 8) = m * 8 * 2 := by ring
  rw [moduleCount, hnum, hden, Nat.mul_div_mul_left _ _ (by omega)]
  omega

theorem classified_scale (m : Nat) (x : SymbolWidths) (hm : 1 ≤ m) (hx : x.Printable) :
    classified (x.scale m) = true := by
  obtain ⟨htotal, hrange⟩ := hx
  have hscaled : (x.scale m).total = m * 8 := by rw [SymbolWidths.total_scale, htotal]
  simp only [classified, hscaled]
  simp only [SymbolWidths.scale, moduleCount_printed _ _ hm]
  simpa [SymbolWidths.elements, and_assoc] using hrange

theorem lookupSymbol_scale (m : Nat) (x : SymbolWidths) (hm : 1 ≤ m) (hx : x.Printable) :
    lookupSymbol (x.scale m) = symbolOf x.w0 x.w1 x.w2 x.w3 := by
  simp only [lookupSymbol, SymbolWidths.total_scale, hx.1]
  simp only [SymbolWidths.scale, moduleCount_printed _ _ hm]

/-! ### The symbols of a printed code -/

/-- The symbol a digit is printed as. -/
def digitSymbol (d : Nat) : SymbolWidths :=
  let n := digitModules d
  ⟨n.getD 0 0, n.getD 1 0, n.getD 2 0, n.getD 3 0⟩

/-- START and STOP (section 3.2). -/
def startSymbol : SymbolWidths := ⟨1, 1, 3, 3⟩

def stopSymbol : SymbolWidths := ⟨3, 3, 1, 1⟩

/-- The fourteen symbols of a printed code, in modules. -/
def printedSymbols (c : Code) : List SymbolWidths :=
  startSymbol :: (List.range 12).map (fun i => digitSymbol (codeDigit c i)) ++ [stopSymbol]

theorem elements_digitSymbol (d : Nat) : (digitSymbol d).elements = digitModules d := by
  unfold digitSymbol digitModules
  split <;> rfl

theorem digitSymbol_printable (d : Nat) : (digitSymbol d).Printable := by
  unfold SymbolWidths.Printable digitSymbol digitModules
  split <;> decide

theorem symbolOf_digitSymbol (d : Nat) (hd : d < 16) :
    symbolOf (digitSymbol d).w0 (digitSymbol d).w1 (digitSymbol d).w2 (digitSymbol d).w3 = some (.digit d) := by
  revert d
  decide

theorem codeModules_eq (c : Code) : codeModules c = (printedSymbols c).flatMap SymbolWidths.elements ++ [2] := by
  have hstart : startSymbol.elements = [1, 1, 3, 3] := rfl
  have hstop : stopSymbol.elements = [3, 3, 1, 1] := rfl
  simp [codeModules, printedSymbols, List.flatMap_map, elements_digitSymbol, hstart, hstop]

theorem printedSymbols_printable (c : Code) : ∀ x ∈ printedSymbols c, x.Printable := by
  intro x hx
  simp only [printedSymbols, List.cons_append, List.mem_cons, List.mem_append, List.mem_map, List.not_mem_nil,
    or_false] at hx
  rcases hx with rfl | ⟨i, _, rfl⟩ | rfl
  · exact ⟨rfl, by decide⟩
  · exact digitSymbol_printable _
  · exact ⟨rfl, by decide⟩

theorem length_printedSymbols (c : Code) : (printedSymbols c).length = 14 := by simp [printedSymbols]

theorem codeModules_le (c : Code) : ∀ n ∈ codeModules c, n ≤ 3 := by
  intro n hn
  rw [codeModules_eq, List.mem_append, List.mem_flatMap] at hn
  rcases hn with ⟨x, hx, hmem⟩ | hmem
  · have hrange := (printedSymbols_printable c x hx).2 n hmem
    simp only [countInRange, Bool.and_eq_true, decide_eq_true_eq] at hrange
    exact hrange.2
  · rw [List.mem_singleton.mp hmem]
    decide

/-- The widths of the run, none of which is lost in 16 bits. -/
theorem toNat_printedRun (c : Code) (m : Nat) (hm : 3 * m ≤ 65535) :
    (printedRun c m).map BitVec.toNat = (codeModules c).map (m * ·) := by
  rw [printedRun, List.map_map]
  refine List.map_congr_left fun n hn => ?_
  have hmn : m * n ≤ m * 3 := Nat.mul_le_mul_left m (codeModules_le c n hn)
  exact Nat.mod_eq_of_lt (by omega)

theorem codeModules_scale (c : Code) (m : Nat) :
    (codeModules c).map (m * ·) =
      ((printedSymbols c).map (SymbolWidths.scale m)).flatMap SymbolWidths.elements ++ [m * 2] := by
  rw [codeModules_eq, List.map_append, List.map_flatMap, List.flatMap_map]
  rfl

/-! ### The six stages of an attempt on a printed run -/

theorem classified_printed (c : Code) (m : Nat) (hm : 1 ≤ m) :
    ((printedSymbols c).map (SymbolWidths.scale m)).all classified = true := by
  rw [List.all_map, List.all_eq_true]
  exact fun x hx => classified_scale m x hm (printedSymbols_printable c x hx)

theorem lookup_printed (c : Code) (m : Nat) (hm : 1 ≤ m) :
    ((printedSymbols c).map (SymbolWidths.scale m)).map lookupSymbol =
      some .start :: (List.range 12).map (fun i => some (.digit (codeDigit c i))) ++ [some .stop] := by
  have hlookup : ((printedSymbols c).map (SymbolWidths.scale m)).map lookupSymbol =
      (printedSymbols c).map (fun x => symbolOf x.w0 x.w1 x.w2 x.w3) := by
    rw [List.map_map]
    exact List.map_congr_left fun x hx => lookupSymbol_scale m x hm (printedSymbols_printable c x hx)
  have hstart : symbolOf 1 1 3 3 = some .start := rfl
  have hstop : symbolOf 3 3 1 1 = some .stop := rfl
  rw [hlookup]
  simp [printedSymbols, startSymbol, stopSymbol, hstart, hstop, symbolOf_digitSymbol, codeDigit_lt]

theorem digitsOf_digits (ds : List Nat) : digitsOf (ds.map (fun d => some (.digit d))) = some ds := by
  induction ds with
  | nil => rfl
  | cons d ds ih => simp [digitsOf, ih]

theorem placedDigits_printed (ds : List Nat) (h : ds.length = 12) :
    placedDigits (some .start :: ds.map (fun d => some (.digit d)) ++ [some .stop]) = some ds := by
  have hlast : (some Symbol.start :: (ds.map (fun d => some (Symbol.digit d)) ++ [some Symbol.stop])).getLast? =
      some (some .stop) := List.getLast?_concat (l := some Symbol.start :: ds.map _)
  have htake : (ds.map (fun d => some (Symbol.digit d)) ++ [some Symbol.stop]).take 12 =
      ds.map (fun d => some (Symbol.digit d)) := List.take_left' (by simpa using h)
  simp [placedDigits, h, hlast, htake, digitsOf_digits]

/-- Symbols of one width are each a fourteenth of the fourteen (R38). -/
theorem pitchPasses_of_equal (xs : List SymbolWidths) (t : Nat) (hlen : xs.length = 14)
    (ht : ∀ x ∈ xs, x.total = t) : pitchPasses xs = true := by
  have hsum : (xs.map SymbolWidths.total).sum = 14 * t := by
    rw [List.map_congr_left ht, List.map_const', List.sum_replicate, hlen, smul_eq_mul]
  simp only [pitchPasses, hsum, List.all_eq_true]
  intro x hx
  simp [ht x hx]

theorem pitchPasses_printed (c : Code) (m : Nat) :
    pitchPasses ((printedSymbols c).map (SymbolWidths.scale m)) = true := by
  refine pitchPasses_of_equal _ (m * 8) (by rw [List.length_map, length_printedSymbols]) fun y hy => ?_
  obtain ⟨x, hx, rfl⟩ := List.mem_map.mp hy
  rw [SymbolWidths.total_scale, (printedSymbols_printable c x hx).1]

theorem terminatorPasses_printed (c : Code) (m : Nat) (hm : 1 ≤ m) :
    terminatorPasses ((printedSymbols c).map (SymbolWidths.scale m)) [m * 2] = true := by
  have hlast : ((printedSymbols c).map (SymbolWidths.scale m)).getLast? = some (stopSymbol.scale m) := by
    rw [printedSymbols, List.map_append]
    exact List.getLast?_concat
  have htotal : (stopSymbol.scale m).total = m * 8 := SymbolWidths.total_scale m stopSymbol
  simp [terminatorPasses, hlast, htotal, moduleCount_printed _ _ hm]

/-- An attempt from START to the terminator gives the code printed. -/
theorem attemptDecode_printed (c : Code) (m : Nat) (hm : 1 ≤ m) (hc : checkDigitPasses c = true) :
    attemptDecode ((codeModules c).map (m * ·)) = some c := by
  have hplaced : placedDigits (((printedSymbols c).map (SymbolWidths.scale m)).map lookupSymbol) =
      some ((List.range 12).map (codeDigit c)) := by
    rw [lookup_printed c m hm, ← placedDigits_printed ((List.range 12).map (codeDigit c)) (by simp), List.map_map]
    rfl
  simp only [attemptDecode, codeModules_scale, groupSymbols_flatMap, classified_printed c m hm, hplaced,
    pitchPasses_printed, terminatorPasses_printed c m hm, codeOfDigits_codeDigit, hc]
  rfl

/-- An attempt whose first symbol is not START fails (R37). -/
theorem attemptDecode_without_start (a b c d : Nat) (rest : List Nat) (h : lookupSymbol ⟨a, b, c, d⟩ ≠ some .start) :
    attemptDecode (a :: b :: c :: d :: rest) = none := by
  simp [attemptDecode, groupSymbols, placedDigits, h]

/-- From the other end the terminator comes first, and 2, 1, 1, 3 is no START. -/
theorem attemptDecode_reversed (c : Code) (m : Nat) (hm : 1 ≤ m) :
    attemptDecode ((codeModules c).map (m * ·)).reverse = none := by
  have hcount (n : Nat) : moduleCount (m * n) (m * 7) = (16 * n + 7) / 14 := by
    have hnum : 16 * (m * n) + m * 7 = m * (16 * n + 7) := by ring
    have hden : 2 * (m * 7) = m * 14 := by ring
    rw [moduleCount, hnum, hden, Nat.mul_div_mul_left _ _ (by omega)]
  have htotal : m * 2 + m * 1 + m * 1 + m * 3 = m * 7 := by ring
  simp only [codeModules, List.map_append, List.map_cons, List.map_nil, List.reverse_append, List.reverse_cons,
    List.reverse_nil, List.nil_append, List.cons_append]
  refine attemptDecode_without_start _ _ _ _ _ ?_
  simp only [lookupSymbol, SymbolWidths.total, htotal, hcount]
  decide

/-! ### The statement -/

theorem decodeRun_printed (c : Code) (m : Nat) (hc : checkDigitPasses c = true) (hm : 1 ≤ m) (hmax : 3 * m ≤ 65535) :
    decodeRun (printedRun c m) = some (c, .forward) := by
  simp only [decodeRun, toNat_printedRun c m hmax, attemptDecode_printed c m hm hc]

theorem decodeRun_printed_reverse (c : Code) (m : Nat) (hc : checkDigitPasses c = true) (hm : 1 ≤ m)
    (hmax : 3 * m ≤ 65535) : decodeRun (printedRun c m).reverse = some (c, .reverse) := by
  simp only [decodeRun, List.map_reverse, toNat_printedRun c m hmax, attemptDecode_reversed c m hm, List.reverse_reverse,
    attemptDecode_printed c m hm hc]

/-- The table of section 3.2 as a list: the pattern of digit d at place d. -/
def patternTable : List (List Nat) :=
  [[3, 2, 2, 1], [3, 2, 1, 2], [3, 1, 2, 2], [2, 3, 2, 1], [2, 3, 1, 2], [2, 2, 3, 1], [2, 2, 1, 3], [2, 1, 3, 2],
    [2, 1, 2, 3], [1, 3, 2, 2], [1, 2, 3, 2], [1, 2, 2, 3], [3, 1, 3, 1], [3, 1, 1, 3], [1, 3, 3, 1], [1, 3, 1, 3]]

theorem digitModules_eq_patternTable (d : Nat) (hd : d < 16) : digitModules d = patternTable.getD d [] := by
  revert d
  decide

theorem printedRun_eq (c : Code) (m : Nat) :
    printedRun c m =
      ([1, 1, 3, 3] ++ (List.range 12).flatMap (fun i => patternTable.getD (codeDigit c i) []) ++ [3, 3, 1, 1, 2]).map
        (fun modules => BitVec.ofNat 16 (modules * m)) := by
  simp only [printedRun, codeModules, fun i => digitModules_eq_patternTable _ (codeDigit_lt c i), Nat.mul_comm m,
    List.append_assoc, List.cons_append, List.nil_append]

/-- Settles O11: the attempt from START gives the code, the one from the terminator nothing. -/
theorem printedCodesDecodeBothWays : Obligations.PrintedCodesDecodeBothWays := by
  unfold Obligations.PrintedCodesDecodeBothWays
  intro pattern c m run
  have hrun : printedRun c m = run := printedRun_eq c m
  rw [← hrun]
  exact ⟨rfl, fun hc hm hmax => ⟨decodeRun_printed c m hc hm hmax, decodeRun_printed_reverse c m hc hm hmax⟩⟩

end Sys2Proof.Machine
end

section
/-! PROOF. The candidate list of a scan record (R33, R41, R45) and the vote of a closing window (R49 to R51). -/

namespace Sys2Proof.Machine

/-! ### Taking a run -/

/-- A code on the list gains a decode (R45). -/
theorem offerDecode_listed (c : Code) (d : Direction) (before after : List Candidate) (x : Candidate)
    (hb : ∀ y ∈ before, y.code ≠ c) (hx : x.code = c) :
    offerDecode c d (before ++ x :: after) = before ++ { x with count := satInc x.count } :: after := by
  have hany : (before ++ x :: after).any (fun y => y.code == c) = true := by simp [hx]
  rw [offerDecode, if_pos hany]
  exact modifyFirst_first _ _ before after x (by simpa using hb) (by simpa using hx)

theorem any_code_eq_false (c : Code) (cs : List Candidate) (h : ∀ y ∈ cs, y.code ≠ c) :
    ¬cs.any (fun y => y.code == c) = true := by
  simpa using h

/-- A new code is appended while the list has room (R45). -/
theorem offerDecode_new (c : Code) (d : Direction) (cs : List Candidate) (h : ∀ y ∈ cs, y.code ≠ c)
    (hroom : cs.length < maxCandidates) : offerDecode c d cs = cs ++ [{ code := c, count := 1, direction := d }] := by
  rw [offerDecode, if_neg (any_code_eq_false c cs h), if_pos hroom]

/-- A new code is dropped at a full list (R45). -/
theorem offerDecode_full (c : Code) (d : Direction) (cs : List Candidate) (h : ∀ y ∈ cs, y.code ≠ c)
    (hfull : maxCandidates ≤ cs.length) : offerDecode c d cs = cs := by
  rw [offerDecode, if_neg (any_code_eq_false c cs h), if_neg (Nat.not_lt.mpr hfull)]

theorem takeRun_short (r : ScanRecord) (run : List Word) (h : run.length ≠ 57) :
    r.takeRun run = { r with runs := satInc r.runs } := by
  rw [ScanRecord.takeRun, if_neg h]

theorem takeRun_undecoded (r : ScanRecord) (run : List Word) (h : run.length = 57) (hd : decodeRun run = none) :
    r.takeRun run = { r with runs := satInc r.runs, fullRuns := satInc r.fullRuns } := by
  rw [ScanRecord.takeRun, if_pos h, hd]

theorem takeRun_decoded (r : ScanRecord) (run : List Word) (c : Code) (d : Direction) (h : run.length = 57)
    (hd : decodeRun run = some (c, d)) :
    r.takeRun run =
      { r with
        runs := satInc r.runs, fullRuns := satInc r.fullRuns, decodes := satInc r.decodes,
        candidates := offerDecode c d r.candidates } := by
  rw [ScanRecord.takeRun, if_pos h, hd]

/-- Settles O12: the run by its length and its decode, the decode by the candidate list. -/
theorem takingARunCountsAndOffers : Obligations.TakingARunCountsAndOffers := by
  unfold Obligations.TakingARunCountsAndOffers
  refine ⟨fun b w => ⟨satInc_byte b, satInc_word w⟩, fun r run => ⟨takeRun_short r run, takeRun_undecoded r run,
    fun c d h hd => ⟨fun before x after hc hb hx => ?listed, fun hnew hroom => ?new, fun hnew hfull => ?full⟩⟩⟩
  case listed => rw [takeRun_decoded r run c d h hd, hc, offerDecode_listed c d before after x hb hx]
  case new => rw [takeRun_decoded r run c d h hd, offerDecode_new c d _ hnew hroom]
  case full => rw [takeRun_decoded r run c d h hd, offerDecode_full c d _ hnew hfull]

/-! ### The largest count -/

theorem foldl_max_count (cs : List Candidate) (m : Nat) :
    cs.foldl (fun k x => max k x.count.toNat) m = max m (highestCount cs) := by
  induction cs generalizing m with
  | nil => simp [highestCount]
  | cons x xs ih => 
    have hcons : highestCount (x :: xs) = max (max 0 x.count.toNat) (highestCount xs) := ih _
    rw [List.foldl_cons, ih, hcons, Nat.zero_max, Nat.max_assoc]

theorem highestCount_cons (x : Candidate) (xs : List Candidate) :
    highestCount (x :: xs) = max x.count.toNat (highestCount xs) := by
  rw [highestCount, List.foldl_cons, foldl_max_count, Nat.zero_max]

theorem count_le_highestCount (cs : List Candidate) (x : Candidate) (h : x ∈ cs) : x.count.toNat ≤ highestCount cs := by
  induction cs with
  | nil => cases h
  | cons y ys ih =>
    rw [highestCount_cons]
    rcases List.mem_cons.mp h with rfl | hmem
    · exact Nat.le_max_left _ _
    · exact le_max_of_le_right (ih hmem)

theorem exists_count_eq_highestCount (cs : List Candidate) (h : cs ≠ []) :
    ∃ x ∈ cs, x.count.toNat = highestCount cs := by
  induction cs with
  | nil => exact absurd rfl h
  | cons y ys ih =>
    rw [highestCount_cons]
    by_cases hy : ys = [] ∨ highestCount ys ≤ y.count.toNat
    · refine ⟨y, List.mem_cons_self, (max_eq_left ?_).symm⟩
      rcases hy with rfl | hle
      · exact Nat.zero_le _
      · exact hle
    · obtain ⟨hne, hlt⟩ := not_or.mp hy
      obtain ⟨x, hx, he⟩ := ih hne
      exact ⟨x, List.mem_cons_of_mem _ hx, he.trans (max_eq_right (Nat.le_of_not_le hlt)).symm⟩

/-! ### The winner (R49) -/

/-- The candidate has VOTE_MIN decodes, and more than every other. -/
def Candidate.Wins (voteMin : Nat) (cs : List Candidate) (x : Candidate) : Prop :=
  voteMin ≤ x.count.toNat ∧ ∀ y ∈ cs, y ≠ x → y.count.toNat < x.count.toNat

theorem Candidate.Wins.unique {voteMin : Nat} {cs : List Candidate} {x y : Candidate} (hx : x.Wins voteMin cs)
    (hy : y.Wins voteMin cs) (hxmem : x ∈ cs) (hymem : y ∈ cs) : x = y := by
  by_contra hne
  exact absurd (hx.2 y hymem (Ne.symm hne)) (Nat.lt_asymm (hy.2 x hxmem hne))

theorem code_eq_iff (cs : List Candidate) (hcodes : (cs.map Candidate.code).Nodup) (x y : Candidate) (hx : x ∈ cs)
    (hy : y ∈ cs) : y.code = x.code ↔ y = x :=
  ⟨fun h => List.inj_on_of_nodup_map hcodes hy hx h, fun h => h ▸ rfl⟩

/-- The test of voteWinner, which tells the other candidates apart by their codes. -/
def voteTest (voteMin : Nat) (cs : List Candidate) (x : Candidate) : Bool :=
  decide (voteMin ≤ x.count.toNat) && cs.all (fun y => y.code == x.code || decide (y.count.toNat < x.count.toNat))

theorem voteWinner_eq (voteMin : Nat) (cs : List Candidate) :
    voteWinner voteMin cs = cs.find? (voteTest voteMin cs) := rfl

theorem voteTest_iff (voteMin : Nat) (cs : List Candidate) (hcodes : (cs.map Candidate.code).Nodup) (x : Candidate)
    (hx : x ∈ cs) : voteTest voteMin cs x = true ↔ x.Wins voteMin cs := by
  simp only [voteTest, Bool.and_eq_true, decide_eq_true_eq, List.all_eq_true, Bool.or_eq_true, beq_iff_eq, Candidate.Wins]
  refine and_congr_right fun _ => forall₂_congr fun y hy => ?_
  rw [code_eq_iff cs hcodes x y hx hy]
  exact or_iff_not_imp_left

theorem voteWinner_eq_some (voteMin : Nat) (cs : List Candidate) (hcodes : (cs.map Candidate.code).Nodup)
    (x : Candidate) (hx : x ∈ cs) (hwins : x.Wins voteMin cs) : voteWinner voteMin cs = some x := by
  rw [voteWinner_eq]
  cases hfound : cs.find? (voteTest voteMin cs) with
  | none => exact absurd ((voteTest_iff voteMin cs hcodes x hx).mpr hwins) (List.find?_eq_none.mp hfound x hx)
  | some y =>
    have hy := List.mem_of_find?_eq_some hfound
    have hywins := (voteTest_iff voteMin cs hcodes y hy).mp (List.find?_some hfound)
    rw [hywins.unique hwins hy hx]

theorem voteWinner_eq_none (voteMin : Nat) (cs : List Candidate) (hcodes : (cs.map Candidate.code).Nodup)
    (h : ¬∃ x ∈ cs, x.Wins voteMin cs) : voteWinner voteMin cs = none :=
  List.find?_eq_none.mpr fun x hx hwins => h ⟨x, hx, (voteTest_iff voteMin cs hcodes x hx).mp hwins⟩

/-- The runner-up's count bounds every other candidate's, and is 0 or one of theirs. -/
theorem runnerUp_spec (cs : List Candidate) (hcodes : (cs.map Candidate.code).Nodup) (x : Candidate) (hx : x ∈ cs) :
    let runnerUp := highestCount (cs.filter (fun y => y.code != x.code))
    (∀ y ∈ cs, y ≠ x → y.count.toNat ≤ runnerUp)
      ∧ (runnerUp = 0 ∨ ∃ y ∈ cs, y ≠ x ∧ y.count.toNat = runnerUp) := by
  intro runnerUp
  have hmem (y : Candidate) : y ∈ cs.filter (fun y => y.code != x.code) ↔ y ∈ cs ∧ y ≠ x := by
    rw [List.mem_filter, bne_iff_ne]
    exact and_congr_right fun hy => not_congr (code_eq_iff cs hcodes x y hx hy)
  refine ⟨fun y hy hne => count_le_highestCount _ y ((hmem y).mpr ⟨hy, hne⟩), ?_⟩
  by_cases hempty : cs.filter (fun y => y.code != x.code) = []
  · left
    simp only [runnerUp, hempty]
    rfl
  · obtain ⟨y, hy, hcount⟩ := exists_count_eq_highestCount _ hempty
    obtain ⟨hycs, hne⟩ := (hmem y).mp hy
    exact Or.inr ⟨y, hycs, hne, hcount⟩

/-! ### The reason of a failed read (R50) -/

/-- At least two candidates stand at the largest count. -/
def SharedHighest (cs : List Candidate) : Prop :=
  2 ≤ (cs.filter (fun x => x.count.toNat == highestCount cs)).length

/-- Without a winner no candidate stands alone at a largest count that reaches VOTE_MIN. -/
theorem sharedHighest_of_no_winner (voteMin : Nat) (cs : List Candidate) (hne : cs ≠ [])
    (hmin : voteMin ≤ highestCount cs) (h : ¬∃ x ∈ cs, x.Wins voteMin cs) : SharedHighest cs := by
  obtain ⟨x, hx, hcount⟩ := exists_count_eq_highestCount cs hne
  have hrival : ∃ y ∈ cs, y ≠ x ∧ x.count.toNat ≤ y.count.toNat := by
    by_contra hno
    refine h ⟨x, hx, by omega, fun y hy hyx => Nat.lt_of_not_le fun hle => hno ⟨y, hy, hyx, hle⟩⟩
  obtain ⟨y, hy, hyx, hle⟩ := hrival
  have hycount : y.count.toNat = highestCount cs := le_antisymm (count_le_highestCount cs y hy) (hcount ▸ hle)
  have hxtop : x ∈ cs.filter (fun z => z.count.toNat == highestCount cs) := List.mem_filter.mpr ⟨hx, by simp [hcount]⟩
  have hytop : y ∈ cs.filter (fun z => z.count.toNat == highestCount cs) := List.mem_filter.mpr ⟨hy, by simp [hycount]⟩
  have htwo : [y, x].Nodup := by simpa using hyx
  exact (htwo.subperm (by simp [List.cons_subset, hxtop, hytop])).length_le

theorem failReason_noRun (voteMin : Nat) (r : ScanRecord) (h : r.fullRuns = 0) : failReason voteMin r = .noRun :=
  if_pos h

theorem failReason_noDecode (voteMin : Nat) (r : ScanRecord) (h : r.fullRuns ≠ 0) (hc : r.candidates = []) :
    failReason voteMin r = .noDecode := by
  rw [failReason, if_neg h, hc]
  rfl

theorem failReason_tie (voteMin : Nat) (r : ScanRecord) (h : r.fullRuns ≠ 0) (hne : r.candidates ≠ [])
    (hshared : SharedHighest r.candidates) (hmin : voteMin ≤ highestCount r.candidates) :
    failReason voteMin r = .tie := by
  unfold SharedHighest at hshared
  rw [failReason, if_neg h]
  simp [hne, hshared, hmin]

theorem failReason_tooFew (voteMin : Nat) (r : ScanRecord) (h : r.fullRuns ≠ 0) (hne : r.candidates ≠ [])
    (hfew : highestCount r.candidates < voteMin) : failReason voteMin r = .tooFew := by
  rw [failReason, if_neg h]
  simp [hne, Nat.not_le.mpr hfew]

/-! ### The read record -/

/-- The read record is that of the window's letter. -/
theorem formReadRecord_id (voteMin : Nat) (r : ScanRecord) : (formReadRecord voteMin r).id = r.id := by
  unfold formReadRecord
  split <;> rfl

theorem formReadRecord_of_winner (voteMin : Nat) (r : ScanRecord) (x : Candidate)
    (h : voteWinner voteMin r.candidates = some x) :
    let runnerUp := highestCount (r.candidates.filter (fun y => y.code != x.code))
    formReadRecord voteMin r =
      { id := r.id,
        verdict :=
          .good x.code x.count (BitVec.ofNat 8 runnerUp) (BitVec.ofNat 4 (min 15 (x.count.toNat - runnerUp)))
            x.direction,
        sweeps := r.sweeps } := by
  simp only [formReadRecord, h]

theorem formReadRecord_of_none (voteMin : Nat) (r : ScanRecord) (h : voteWinner voteMin r.candidates = none) :
    formReadRecord voteMin r = { id := r.id, verdict := .failed (failReason voteMin r), sweeps := r.sweeps } := by
  simp only [formReadRecord, h]

/-- Settles O13: the winner is the one that wins, its runner-up the largest of the others; the reasons by the largest
count. -/
theorem voteFormsReadRecord : Obligations.VoteFormsReadRecord := by
  unfold Obligations.VoteFormsReadRecord
  intro voteMin r hcodes
  refine ⟨fun x hx hmin hmore => ?good, fun hno => ?failed⟩
  case good =>
    have hwinner := voteWinner_eq_some voteMin r.candidates hcodes x hx ⟨hmin, hmore⟩
    obtain ⟨hbound, hattained⟩ := runnerUp_spec r.candidates hcodes x hx
    exact ⟨_, formReadRecord_of_winner voteMin r x hwinner, hbound, hattained⟩
  case failed =>
    refine ⟨failReason voteMin r, formReadRecord_of_none voteMin r (voteWinner_eq_none voteMin _ hcodes hno),
      failReason_noRun voteMin r, failReason_noDecode voteMin r, fun hruns hreach => ?_, fun hruns hne hbelow => ?_⟩
    · obtain ⟨x, hx, hmin⟩ := hreach
      have hne := List.ne_nil_of_mem hx
      have htop := hmin.trans (count_le_highestCount _ x hx)
      exact failReason_tie voteMin r hruns hne (sharedHighest_of_no_winner voteMin _ hne htop hno) htop
    · obtain ⟨x, hx, hcount⟩ := exists_count_eq_highestCount _ hne
      exact failReason_tooFew voteMin r hruns hne (hcount ▸ hbelow x hx)

end Sys2Proof.Machine
end

section
/-! PROOF. Where an entry is placed in the table, and what its removal takes with it (R47, R55, R56). -/

namespace Sys2Proof.Machine

/-- R55: the entry stands right before the first one whose reference position is after its own. -/
theorem placeEntry_eq (e : Entry) (t : List Entry) :
    placeEntry e t =
      t.takeWhile (fun x => !isAfter x.reference e.reference) ++ e
        :: t.dropWhile (fun x => !isAfter x.reference e.reference) := by
  induction t with
  | nil => rfl
  | cons x xs ih => by_cases h : isAfter x.reference e.reference <;> simp [placeEntry, h, ih]

theorem Entry.reference_of_arrival (e : Entry) (x : Pos) (h : e.arrival = some x) : e.reference = x := by
  simp only [Entry.reference, h]

theorem Entry.reference_of_expected (e : Entry) (x : Pos) (ha : e.arrival = none) (he : e.expectedAt = some x) :
    e.reference = x := by
  simp only [Entry.reference, ha, he, Option.getD_some]

theorem withoutEntry_eq (id : LetterId) (t : List Entry) :
    withoutEntry id t = t.filter (fun x : Entry => decide (x.id ≠ id)) :=
  List.filter_congr fun x _ => by by_cases h : x.id = id <;> simp [h]

theorem State.removeEntry_entry_self (s : State) (id : LetterId) : (s.removeEntry id).entry id = none := by
  simp [State.entry, withoutEntry, List.find?_eq_none]

theorem State.removeEntry_entry_other (s : State) (id other : LetterId) (h : other ≠ id) :
    (s.removeEntry id).entry other = s.entry other := by
  have htest : (fun e : Entry => decide (e.id != id ∧ e.id == other)) = fun e : Entry => e.id == other := by
    funext e
    by_cases he : e.id = other <;> simp [he, h]
  rw [State.entry, State.removeEntry_table, withoutEntry, List.find?_filter]
  exact congrArg (s.table.find? ·) htest

/-- A window open for the letter is discarded with it (R47). -/
theorem State.removeEntry_of_window (s : State) (id : LetterId) (h : ∃ r, s.scan = some r ∧ r.id = id) :
    s.removeEntry id =
      { s.discardWindow with table := withoutEntry id s.table, blockage := blockageAfterRemoval id s.blockage } := by
  rw [State.removeEntry, State.discardWindowOf_eq, if_pos ((s.windowIs_iff id).mpr h)]

theorem State.removeEntry_of_no_window (s : State) (id : LetterId) (h : ¬∃ r, s.scan = some r ∧ r.id = id) :
    s.removeEntry id =
      { s with table := withoutEntry id s.table, blockage := blockageAfterRemoval id s.blockage } := by
  rw [State.removeEntry, State.discardWindowOf_eq, if_neg fun hw => h ((s.windowIs_iff id).mp hw)]

theorem blockageAfterRemoval_named (id : LetterId) (a j : Pos) :
    blockageAfterRemoval id (.blocked id a j) = .untracked (some id) a j :=
  if_pos rfl

theorem blockageAfterRemoval_other (id : LetterId) (b : Blockage) (h : ∀ a j, b ≠ .blocked id a j) :
    blockageAfterRemoval id b = b := by
  cases b with
  | none => rfl
  | blocked i a j =>
    have hi : i ≠ id := by
      rintro rfl
      exact h a j rfl
    exact if_neg hi
  | untracked i a j => rfl

/-- Settles O17: the place by the entries before it, the removal by the window and the blockage. -/
theorem entriesArePlacedAndRemoved : Obligations.EntriesArePlacedAndRemoved := by
  unfold Obligations.EntriesArePlacedAndRemoved
  refine ⟨placeEntry_eq, fun e x => ⟨e.reference_of_arrival x, e.reference_of_expected x⟩, fun s id => ?_⟩
  intro windowOpen others
  have hothers : withoutEntry id s.table = others := withoutEntry_eq id s.table
  rw [← hothers]
  refine ⟨s.removeEntry_entry_self id, s.removeEntry_entry_other id, s.removeEntry_of_window id,
    s.removeEntry_of_no_window id, fun a j hb => ?_, blockageAfterRemoval_other id s.blockage, rfl⟩
  rw [State.removeEntry_blockage, hb, blockageAfterRemoval_named]

end Sys2Proof.Machine
end

section
/-! PROOF. The close of a scan window with its read record, at its close point and at a leading edge (R46, R60, R65,
R85). -/

namespace Sys2Proof.Machine

/-! ### The close point -/

theorem State.closeWindow_of_none (s : State) (h : s.scan = none) : s.closeWindow = s := by
  simp only [State.closeWindow, h]

theorem State.closeWindow_of_open (s : State) (r : ScanRecord) (h : s.scan = some r) :
    s.closeWindow = (s.ownRead (formReadRecord s.cfg.voteMin r)).discardWindow := by
  simp only [State.closeWindow, h]

theorem execScanClosePoint_of_reached (s : State) (r : ScanRecord) (hrun : s.runState = .running)
    (hscan : s.scan = some r) (hpoint : Reached s.tach.count r.closePoint) :
    execScanClosePoint s = .next s.closeWindow := by
  simp only [execScanClosePoint, hscan, hrun, (pointReached_iff _ _).mpr hpoint, and_self, if_true]

/-- A good read applies its code and quality, a failed one the failure (R81). -/
theorem verdictRead_eq (reader : Station) (v : Verdict) :
    verdictRead reader v =
      match v with
      | .good code _ _ quality _ => fun i => i.applyGood code quality reader
      | .failed _ => Identity.applyFailed := by
  cases v <;> rfl

/-- The identity with the read applied, and the letter judged again as R84 and R110 say. -/
theorem State.applyRead_judgedAgain (s : State) (id : LetterId) (f : Identity → Identity) :
    (s.withIdentity id f).JudgedAgain id (s.identityChanges id f) (s.applyRead id f) := by
  rw [State.applyRead_eq]
  exact State.rejudge_judgedAgain _ id _

theorem State.JudgedAgain.eq_of_not_armed {t u : State} {id : LetterId} {changed : Bool}
    (h : t.JudgedAgain id changed u) (hop : t.ownOp id = none ∨ ∃ k o, t.ownOp id = some (k, o) ∧ o.state ≠ .armed) :
    u = t := by
  obtain ⟨hunchanged, hown⟩ := h
  rcases hop with hnone | ⟨k, o, hsome, harmed⟩
  · exact hunchanged (Or.inr hnone)
  · exact (hown k o hsome).1 harmed

/-- Settles O14: the row closes the window, and the close is the own read in the order of R85. -/
theorem scanClosePointReadsLetter : Obligations.ScanClosePointReadsLetter := by
  unfold Obligations.ScanClosePointReadsLetter
  intro s r hrun hscan hpoint record outcome read window t
  have hread : verdictRead s.straps.station record.verdict = read := verdictRead_eq _ _
  have houtcome : verdictOutcome record.verdict = outcome := rfl
  have hjudged := s.applyRead_judgedAgain r.id read
  have hclosed : s.closeWindow =
      ((((s.applyRead r.id read).enqueue (.read record)).countRead outcome).discardWindow) := by
    rw [s.closeWindow_of_open r hscan, ← hread, ← houtcome, State.ownRead, formReadRecord_id]
  refine ⟨s.applyRead r.id read, hjudged, fun hop => hjudged.eq_of_not_armed hop, ?_⟩
  refine (execScanClosePoint_of_reached s r hrun hscan hpoint).trans (congrArg _ (hclosed.trans ?_))
  simp only [State.discardWindow, State.countRead, State.count, State.enqueue_frontEnd, State.applyRead_frontEnd,
    State.enqueue_readWindow, State.applyRead_readWindow, State.enqueue_cfg, State.applyRead_cfg]
  rfl

/-! ### The close reads neither the pins nor the record's close point -/

/-- The state with these pins and this scan record, and nothing else changed. -/
def State.withPinsAndScan (s : State) (pins : Pins) (scan : Option ScanRecord) : State :=
  { s with pins := pins, scan := scan }

theorem State.withIdentity_withPinsAndScan (s : State) (p : Pins) (c : Option ScanRecord) (id : LetterId)
    (f : Identity → Identity) :
    (s.withPinsAndScan p c).withIdentity id f = (s.withIdentity id f).withPinsAndScan p c := rfl

theorem State.enqueue_withPinsAndScan (s : State) (p : Pins) (c : Option ScanRecord) (f : Frame) :
    (s.withPinsAndScan p c).enqueue f = (s.enqueue f).withPinsAndScan p c := rfl

theorem State.countRead_withPinsAndScan (s : State) (p : Pins) (c : Option ScanRecord) (o : ReadOutcome) :
    (s.withPinsAndScan p c).countRead o = (s.countRead o).withPinsAndScan p c := rfl

theorem State.cancelOp_withPinsAndScan (s : State) (p : Pins) (c : Option ScanRecord) (k : Fin 4) (id : LetterId) :
    (s.withPinsAndScan p c).cancelOp k id = (s.cancelOp k id).withPinsAndScan p c := rfl

theorem State.releaseClaim_withPinsAndScan (s : State) (p : Pins) (c : Option ScanRecord) (id : LetterId) (k : Fin 4)
    (reason : ReleaseReason) :
    (s.withPinsAndScan p c).releaseClaim id k reason = (s.releaseClaim id k reason).withPinsAndScan p c := by
  have hwaits : ((s.withPinsAndScan p c).modifyEntry id (fun e => { e with claim := .releasedSelf })).claimWaits id =
      (s.modifyEntry id (fun e => { e with claim := .releasedSelf })).claimWaits id := rfl
  simp only [State.releaseClaim, hwaits]
  split <;> rfl

theorem State.rejudge_withPinsAndScan (s : State) (p : Pins) (c : Option ScanRecord) (id : LetterId) :
    (s.withPinsAndScan p c).rejudge id = (s.rejudge id).withPinsAndScan p c := by
  have hentry : (s.withPinsAndScan p c).entry id = s.entry id := rfl
  have hop : (s.withPinsAndScan p c).ownOp id = s.ownOp id := rfl
  have hrule (k : Fin 4) (e : Entry) :
      ruleMatches (s.withPinsAndScan p c).cfg ((s.withPinsAndScan p c).rule k) e = ruleMatches s.cfg (s.rule k) e := rfl
  simp only [State.rejudge, hentry, hop, hrule]
  split
  · split
    · rw [State.releaseClaim_withPinsAndScan, State.cancelOp_withPinsAndScan]
    · rfl
  · rfl

theorem State.applyRead_withPinsAndScan (s : State) (p : Pins) (c : Option ScanRecord) (id : LetterId)
    (f : Identity → Identity) :
    (s.withPinsAndScan p c).applyRead id f = (s.applyRead id f).withPinsAndScan p c := by
  have hchanges : (s.withPinsAndScan p c).identityChanges id f = s.identityChanges id f := rfl
  rw [State.applyRead_eq, State.applyRead_eq, hchanges, State.withIdentity_withPinsAndScan]
  split
  · exact State.rejudge_withPinsAndScan _ p c id
  · rfl

theorem State.ownRead_withPinsAndScan (s : State) (p : Pins) (c : Option ScanRecord) (r : ReadRecord) :
    (s.withPinsAndScan p c).ownRead r = (s.ownRead r).withPinsAndScan p c := by
  have hstation : (s.withPinsAndScan p c).straps = s.straps := rfl
  simp only [State.ownRead, hstation, State.applyRead_withPinsAndScan, State.enqueue_withPinsAndScan,
    State.countRead_withPinsAndScan]

/-- Other pins, and an open record with another close point: the close does the same and leaves the pins as they are. -/
theorem State.closeWindow_withPinsAndScan (s : State) (p : Pins) (r : ScanRecord) (point : Option Pos)
    (h : s.scan = some r) :
    (s.withPinsAndScan p (some { r with closePoint := point })).closeWindow = { s.closeWindow with pins := p } := by
  have hrecord : formReadRecord s.cfg.voteMin { r with closePoint := point } = formReadRecord s.cfg.voteMin r := rfl
  have hcfg (c : Option ScanRecord) : (s.withPinsAndScan p c).cfg = s.cfg := rfl
  rw [State.closeWindow_of_open _ _ rfl, s.closeWindow_of_open r h, hcfg, hrecord, State.ownRead_withPinsAndScan]
  rfl

theorem State.closeWindow_pins_set (s : State) (p : Pins) :
    ({ s with pins := p } : State).closeWindow = { s.closeWindow with pins := p } := by
  obtain h | ⟨r, h⟩ := Option.eq_none_or_eq_some s.scan
  · rw [s.closeWindow_of_none h]
    exact State.closeWindow_of_none _ h
  · have hsame : ({ s with pins := p } : State) = s.withPinsAndScan p (some { r with closePoint := r.closePoint }) := by
      rw [State.withPinsAndScan, ← h]
    rw [hsame, s.closeWindow_withPinsAndScan p r r.closePoint h]

theorem State.closeWindow_closes (s : State) : s.closeWindow.scan = none := by
  cases h : s.scan with
  | none => rw [s.closeWindow_of_none h, h]
  | some r => rw [s.closeWindow_of_open r h, State.discardWindow_scan]

/-! ### The leading edge -/

/-- The edge is taken after the close of an open window, whatever it meets (R65 step 1). -/
theorem State.leadingEdge_closeWindow (s : State) : s.closeWindow.leadingEdge = s.leadingEdge := by
  simp only [State.leadingEdge, State.closeWindow_of_none _ s.closeWindow_closes]

theorem execPcellLeadingEdge_of_running (s : State) (hrun : s.runState = .running) (hp : s.pins.pcellBlocked = false) :
    execPcellLeadingEdge s = .next ({ s with pins := { s.pins with pcellBlocked := true } } : State).leadingEdge := by
  simp only [execPcellLeadingEdge, hp, hrun, Bool.false_eq_true, if_false, if_true]

theorem execPcellLeadingEdge_closeWindow (s : State) (hrun : s.runState = .running)
    (hp : s.pins.pcellBlocked = false) : execPcellLeadingEdge s = execPcellLeadingEdge s.closeWindow := by
  rw [execPcellLeadingEdge_of_running s hrun hp,
    execPcellLeadingEdge_of_running s.closeWindow (by simpa using hrun) (by simpa using hp),
    ← State.leadingEdge_closeWindow, State.closeWindow_pins_set, State.closeWindow_pins]

theorem reached_now (count : Pos) : Reached count (some count) := ⟨count, rfl, by simp⟩

/-- The close of a leading edge is the one of SCAN_CLOSE_POINT (R46). -/
theorem execScanClosePoint_reached_now (s : State) (r : ScanRecord) (hrun : s.runState = .running)
    (hscan : s.scan = some r) :
    execScanClosePoint { s with scan := some { r with closePoint := some s.tach.count } } = .next s.closeWindow := by
  have hclose := s.closeWindow_withPinsAndScan s.pins r (some s.tach.count) hscan
  have hpins : { s.closeWindow with pins := s.pins } = s.closeWindow := by rw [← State.closeWindow_pins s]
  have hexec := execScanClosePoint_of_reached
    (s.withPinsAndScan s.pins (some { r with closePoint := some s.tach.count })) _ hrun rfl (reached_now s.tach.count)
  exact hexec.trans (congrArg _ (hclose.trans hpins))

theorem execPcellLeadingEdge_outside_running (s : State) (hrun : s.runState ≠ .running)
    (hp : s.pins.pcellBlocked = false) :
    execPcellLeadingEdge s = .next { s with pins := { s.pins with pcellBlocked := true } } := by
  simp only [execPcellLeadingEdge, hp, hrun, Bool.false_eq_true, if_false]

theorem execPcellTrailingEdge_outside_running (s : State) (hrun : s.runState ≠ .running)
    (hp : s.pins.pcellBlocked = true) :
    execPcellTrailingEdge s = .next { s with pins := { s.pins with pcellBlocked := false } } := by
  simp only [execPcellTrailingEdge, hp, hrun, if_true, if_false]

/-- Settles O20: the close reads no pin, so it can come first; outside RUNNING the edge is not taken. -/
theorem leadingEdgeClosesWindowFirst : Obligations.LeadingEdgeClosesWindowFirst := by
  unfold Obligations.LeadingEdgeClosesWindowFirst
  exact ⟨execPcellLeadingEdge_closeWindow,
    fun s hrun => ⟨s.closeWindow_of_none, fun r hscan => execScanClosePoint_reached_now s r hrun hscan⟩,
    execPcellLeadingEdge_outside_running, execPcellTrailingEdge_outside_running⟩

end Sys2Proof.Machine
end

section
/-! PROOF. The leading edge in RUNNING with no window open: the first awaiting entry is matched, or an orphan is entered
under the first free sequence number (R60 to R65, R100). -/

namespace Sys2Proof.Machine

/-- The state with PCELL at this level, and nothing else changed. -/
def State.withPcell (s : State) (blocked : Bool) : State := { s with pins := { s.pins with pcellBlocked := blocked } }

/-! ### What the edge meets -/

theorem arrivalCandidate_iff (tol : Word) (count : Pos) (e : Entry) :
    arrivalCandidate tol count e = true ↔ e.Awaits tol count := by
  unfold arrivalCandidate Entry.Awaits
  cases e.expectedAt with
  | none => simp
  | some x => simp [inWindow, forward]

/-- The station as an arrived letter leaves it: blockage and jam point set, and a window opened at a SCANNER station that has
none open (steps 3 and 4 of R65). -/
theorem State.arrived_of_no_window (s : State) (id : LetterId) (h : s.scan = none) :
    s.arrived id =
      { s with
        blockage := .blocked id s.tach.count (s.tach.count + s.cfg.jamLen),
        scan := if s.cfg.scanner then some (newScanRecord id) else none,
        frontEnd := if s.cfg.scanner then s.frontEnd.seekQuiet else s.frontEnd } := by
  rw [← h]
  rfl

theorem State.leadingEdge_matches (s : State) (before after : List Entry) (e : Entry) (hscan : s.scan = none)
    (ht : s.table = before ++ e :: after) (hb : ∀ x ∈ before, ¬x.Awaits s.cfg.tol s.tach.count)
    (he : e.Awaits s.cfg.tol s.tach.count) :
    s.leadingEdge = (s.replaceEntry (matchedEntry s.tach.count s.cfg.decideDist e)).arrived e.id := by
  have hfind : s.table.find? (arrivalCandidate s.cfg.tol s.tach.count) = some e := by
    rw [ht]
    exact find_first _ before after e
      (fun x hx => Bool.eq_false_iff.mpr fun hc => hb x hx ((arrivalCandidate_iff _ _ _).mp hc))
      ((arrivalCandidate_iff _ _ _).mpr he)
  simp only [State.leadingEdge, s.closeWindow_of_none hscan, hfind]

theorem State.leadingEdge_unmatched (s : State) (hscan : s.scan = none)
    (h : ∀ x ∈ s.table, ¬x.Awaits s.cfg.tol s.tach.count) : s.leadingEdge = s.orphanArrival := by
  have hfind : s.table.find? (arrivalCandidate s.cfg.tol s.tach.count) = none :=
    List.find?_eq_none.mpr fun x hx hc => h x hx ((arrivalCandidate_iff _ _ _).mp hc)
  simp only [State.leadingEdge, s.closeWindow_of_none hscan, hfind]

/-- Settles O18: the edge takes the first awaiting entry, which is then the arrived one. -/
theorem leadingEdgeMatchesEntry : Obligations.LeadingEdgeMatchesEntry := by
  unfold Obligations.LeadingEdgeMatchesEntry
  intro s before after e hrun hp hscan ht hb he a
  have hedge := State.leadingEdge_matches (s.withPcell true) before after e
    hscan ht hb he
  exact (execPcellLeadingEdge_of_running s hrun hp).trans
    (congrArg _ (hedge.trans (State.arrived_of_no_window _ _ hscan)))

/-! ### The search for a free sequence number (R63) -/

/-- The letter ID that the m-th try of the search tests. -/
def searchedId (station : Station) (q : BitVec 12) (m : Nat) : LetterId :=
  { origin := station, seq := q + BitVec.ofNat 12 m }

theorem searchedId_succ (station : Station) (q : BitVec 12) (m : Nat) :
    searchedId station (q + 1) m = searchedId station q (m + 1) := by
  have h : q + 1 + BitVec.ofNat 12 m = q + BitVec.ofNat 12 (m + 1) := by
    rw [Nat.add_comm m 1, BitVec.ofNat_add, BitVec.add_assoc]
    rfl
  rw [searchedId, searchedId, h]

theorem searchedId_inj (station : Station) (q : BitVec 12) {m n : Nat} (hm : m < 4096) (hn : n < 4096)
    (h : searchedId station q m = searchedId station q n) : m = n := by
  have hseq : q + BitVec.ofNat 12 m = q + BitVec.ofNat 12 n := congrArg LetterId.seq h
  have hnat := congrArg BitVec.toNat ((BitVec.add_right_inj q).mp hseq)
  simpa [Nat.mod_eq_of_lt hm, Nat.mod_eq_of_lt hn] using hnat

/-- All that the search can find with so many tries: the first free number, or that every number tried is carried. -/
theorem freeSequence_cases (t : List Entry) (station : Station) (tries : Nat) (q : BitVec 12) :
    (∃ n, n < tries ∧ freeSequence t station tries q = some (q + BitVec.ofNat 12 n)
        ∧ (∀ m, m < n → searchedId station q m ∈ t.map Entry.id) ∧ searchedId station q n ∉ t.map Entry.id)
      ∨ ∀ m, m < tries → searchedId station q m ∈ t.map Entry.id := by
  have hzero : searchedId station q 0 = { origin := station, seq := q } := by simp [searchedId]
  have hcarried : t.any (fun e => e.id == { origin := station, seq := q }) = true ↔
      searchedId station q 0 ∈ t.map Entry.id := by simp [hzero]
  induction tries generalizing q with
  | zero => exact .inr nofun
  | succ tries ih =>
    unfold freeSequence
    by_cases h0 : searchedId station q 0 ∈ t.map Entry.id
    · rw [if_pos (hcarried.mpr h0)]
      have hupTo (n : Nat) (h : ∀ m, m < n → searchedId station (q + 1) m ∈ t.map Entry.id) (m : Nat)
          (hm : m < n + 1) : searchedId station q m ∈ t.map Entry.id := by
        cases m with
        | zero => exact h0
        | succ m => exact searchedId_succ station q m ▸ h m (Nat.lt_of_succ_lt_succ hm)
      rcases ih (q + 1) (by simp [searchedId]) (by simp [searchedId]) with ⟨n, hn, hfind, htaken, hfree⟩ | htaken
      · refine .inl ⟨n + 1, Nat.succ_lt_succ hn, hfind.trans ?_, hupTo n htaken, searchedId_succ station q n ▸ hfree⟩
        exact congrArg (fun i : LetterId => some i.seq) (searchedId_succ station q n)
      · exact .inr (hupTo tries htaken)
    · rw [if_neg (mt hcarried.mp h0)]
      exact .inl ⟨0, Nat.succ_pos _, by simp, nofun, h0⟩

/-- A table carries no more letter IDs than it has entries, so one of the numbers tried is free. -/
theorem exists_searchedId_free (t : List Entry) (station : Station) (q : BitVec 12) (hlen : t.length < 4096) :
    ¬∀ m, m < t.length + 1 → searchedId station q m ∈ t.map Entry.id := by
  intro h
  have hnodup : ((List.range (t.length + 1)).map (searchedId station q)).Nodup := by
    refine List.Nodup.map_on (fun m hm n hn heq => ?_) List.nodup_range
    have hm' := List.mem_range.mp hm
    have hn' := List.mem_range.mp hn
    exact searchedId_inj station q (by omega) (by omega) heq
  have hsub : (List.range (t.length + 1)).map (searchedId station q) ⊆ t.map Entry.id := fun i hi => by
    obtain ⟨m, hm, rfl⟩ := List.mem_map.mp hi
    exact h m (List.mem_range.mp hm)
  have hle := (List.subperm_of_subset hnodup hsub).length_le
  simp at hle

theorem freeSequence_finds (t : List Entry) (station : Station) (q : BitVec 12) (hlen : t.length < 4096) :
    ∃ n, n ≤ t.length ∧ freeSequence t station (t.length + 1) q = some (q + BitVec.ofNat 12 n)
      ∧ (∀ m, m < n → searchedId station q m ∈ t.map Entry.id) ∧ searchedId station q n ∉ t.map Entry.id := by
  rcases freeSequence_cases t station (t.length + 1) q with ⟨n, hn, hfound⟩ | hall
  · exact ⟨n, Nat.le_of_lt_succ hn, hfound⟩
  · exact absurd hall (exists_searchedId_free t station q hlen)

theorem State.orphanArrival_of_room (s : State) (q : BitVec 12) (hroom : s.table.length < maxEntries)
    (hq : freeSequence s.table s.straps.station (s.table.length + 1) s.sequence = some q) :
    s.orphanArrival =
      State.arrived
        { s with
          sequence := q + 1,
          table :=
            placeEntry (orphanEntry { origin := s.straps.station, seq := q } s.tach.count s.cfg.decideDist) s.table }
        { origin := s.straps.station, seq := q } := by
  simp only [State.orphanArrival, if_pos hroom, hq]

theorem State.orphanArrival_of_full (s : State) (hfull : maxEntries ≤ s.table.length) :
    s.orphanArrival = (s.latch .tableFull).untrackedArrival := by
  simp only [State.orphanArrival, if_neg (Nat.not_lt.mpr hfull)]

/-- Settles O19: no entry is met, and the search for a number ends within one try more than the table has entries. -/
theorem leadingEdgeEntersOrphan : Obligations.LeadingEdgeEntersOrphan := by
  unfold Obligations.LeadingEdgeEntersOrphan
  intro s hrun hp hscan hno a
  have hedge := State.leadingEdge_unmatched (s.withPcell true) hscan hno
  have hexec := (execPcellLeadingEdge_of_running s hrun hp).trans (congrArg _ hedge)
  refine ⟨fun hroom => ?_, fun hfull => ?_⟩
  · obtain ⟨n, hn, hfind, htaken, hfree⟩ := freeSequence_finds s.table s.straps.station s.sequence (by omega)
    refine ⟨n, hn, fun m hm => ?_, fun x hx hid => hfree (List.mem_map.mpr ⟨x, hx, hid⟩), ?_⟩
    · obtain ⟨x, hx, hid⟩ := List.mem_map.mp (htaken m hm)
      exact ⟨x, hx, hid⟩
    · exact hexec.trans (congrArg _ (((s.withPcell true).orphanArrival_of_room _ hroom hfind).trans
        (State.arrived_of_no_window _ _ hscan)))
  · exact hexec.trans (congrArg _ ((s.withPcell true).orphanArrival_of_full hfull))

end Sys2Proof.Machine
end

section
/-! PROOF. Letter frames from upstream at the Letter Tracker and the Sort Unit: RELEASE, LOST, DIVERTED and SIGHT (R57 to R59,
R75, R76, R109), at a receiver and while an attempt of this station is on the line (log 28). -/

namespace Sys2Proof.Machine

/-! ### What the owning block is handed -/

theorem State.HandsOn.unique {s t u : State} {h : Header} (ht : s.HandsOn h t) (hu : s.HandsOn h u) : t = u := by
  obtain ⟨-, -, ⟨hline, rfl⟩ | ⟨hline, rfl⟩⟩ := ht <;> obtain ⟨-, -, ⟨hline', rfl⟩ | ⟨hline', rfl⟩⟩ := hu
  · rfl
  · cases hline.symm.trans hline'
  · cases hline.symm.trans hline'
  · rfl

theorem State.receiveOrHandOn_of_handsOn (s t : State) (h : Header) (owner : State → State) (ht : s.HandsOn h t) :
    s.receiveOrHandOn h owner = owner t := by
  rcases receiveOrHandOn_cases s h owner with ⟨-, hnone⟩ | ⟨-, -, hmet⟩ | ⟨u, hu, heq⟩
  · exact absurd ht (hnone t)
  · obtain ⟨hstation, hposition, -⟩ := ht
    exact (hmet.elim hstation hposition).elim
  · rw [heq, hu.unique ht]

/-- Handing a frame on changes the line alone: what the owning blocks read is as in s. -/
theorem State.HandsOn.kept {s t : State} {h : Header} (ht : s.HandsOn h t) :
    t.table = s.table ∧ t.entry = s.entry ∧ t.pocket = s.pocket ∧ t.ownOp = s.ownOp ∧ t.runState = s.runState
      ∧ t.cfg = s.cfg ∧ t.conditions = s.conditions := by
  obtain ⟨-, -, ⟨-, rfl⟩ | ⟨-, rfl⟩⟩ := ht
  · exact ⟨rfl, rfl, rfl, rfl, rfl, rfl, rfl⟩
  · exact ⟨rfl, rfl, rfl, rfl, rfl, rfl, rfl⟩

theorem State.takesFrom_of (s : State) (h : Header) (hrun : s.runState = .running)
    (hup : h.position.toNat < s.cfg.position.toNat) : s.takesFrom h = true := by
  simp [State.takesFrom, hrun, State.upstream, BitVec.lt_def, hup]

theorem State.HandsLetterOn.taken {s t : State} {h : Header} (ht : s.HandsLetterOn h t) : t.takesFrom h = true := by
  obtain ⟨hands, hrun, hup⟩ := ht
  obtain ⟨-, -, -, -, hrunState, hcfg, -⟩ := hands.kept
  exact t.takesFrom_of h (hrunState.trans hrun) (hcfg ▸ hup)

/-! ### RELEASE and LOST -/

theorem State.takeRelease_of_absent (s : State) (h : Header) (id : LetterId) (pocket : Byte) (he : s.entry id = none) :
    s.takeRelease h id pocket = s := by
  simp only [State.takeRelease, he, ite_self]

theorem State.takeRelease_of_entry (s : State) (h : Header) (id : LetterId) (pocket : Byte) (e : Entry)
    (ht : s.takesFrom h = true) (he : s.entry id = some e) :
    s.takeRelease h id pocket =
      if e.claim = .peer h.station pocket then s.modifyEntry id (fun x => { x with claim := .none }) else s := by
  simp only [State.takeRelease, ht, he, if_true]

theorem State.takeLost_of_absent (s : State) (h : Header) (id : LetterId) (he : s.entry id = none) :
    s.takeLost h id = s := by
  simp only [State.takeLost, he, ite_self]

theorem State.takeLost_of_entry (s : State) (h : Header) (id : LetterId) (e : Entry) (ht : s.takesFrom h = true)
    (he : s.entry id = some e) :
    s.takeLost h id =
      if e.presence = .expected then s.removeEntry id else s.modifyEntry id (fun x => { x with lostHeard := true }) := by
  simp only [State.takeLost, ht, he, if_true]

/-- Settles O43: a RELEASE by the claim it finds, a LOST by the presence. -/
theorem releaseAndLostReceived : Obligations.ReleaseAndLostReceived := by
  unfold Obligations.ReleaseAndLostReceived
  intro s t h id hands
  have hrelease (pocket reason : Byte) : exec (.releaseReceived h id pocket reason) s = .next (t.takeRelease h id pocket) :=
    congrArg _ (s.receiveOrHandOn_of_handsOn t h _ hands.1)
  have hlost : exec (.lostReceived h id) s = .next (t.takeLost h id) :=
    congrArg _ (s.receiveOrHandOn_of_handsOn t h _ hands.1)
  have htakes := hands.taken
  obtain ⟨htable, hentry, -⟩ := hands.1.kept
  simp only [hrelease, hlost, ← htable, ← hentry]
  refine ⟨fun pocket _ => ⟨fun he => ?_, fun e he => ⟨fun hc => ?_, fun hc => ?_⟩⟩, fun he => ?_,
    fun e he => ⟨fun hp => ?_, fun hp => ?_⟩⟩
  · rw [t.takeRelease_of_absent h id pocket he]
  · rw [t.takeRelease_of_entry h id pocket e htakes he, if_pos hc]
    rfl
  · rw [t.takeRelease_of_entry h id pocket e htakes he, if_neg hc]
  · rw [t.takeLost_of_absent h id he]
  · rw [t.takeLost_of_entry h id e htakes he, if_pos hp]
  · rw [t.takeLost_of_entry h id e htakes he, if_neg hp]
    rfl

/-! ### DIVERTED -/

theorem tiedTo_eq_false_iff (id : LetterId) (o : GateOp) : o.tiedTo id = false ↔ (o.id = id → o.confirmed = true) := by
  simp [GateOp.tiedTo]

/-- The own operation of a letter: the first unconfirmed one of the letter, pockets and lists in order (R121, log 20). -/
theorem State.ownOp_first (s : State) (id : LetterId) (j : Fin 4) (before after : List GateOp) (o : GateOp)
    (hpockets : ∀ i : Fin 4, i < j → ∀ x ∈ (s.pocket i).ops, x.id = id → x.confirmed = true)
    (hops : (s.pocket j).ops = before ++ o :: after) (hbefore : ∀ x ∈ before, x.id = id → x.confirmed = true)
    (hid : o.id = id) (hconf : o.confirmed = false) : s.ownOp id = some (j, o) := by
  have hnone (i : Fin 4) (hi : i < j) : (s.pocket i).ops.find? (GateOp.tiedTo id) = none :=
    List.find?_eq_none.mpr fun x hx => by simp [(tiedTo_eq_false_iff id x).mpr (hpockets i hi x hx)]
  have hsome : (s.pocket j).ops.find? (GateOp.tiedTo id) = some o := by
    rw [hops]
    exact find_first _ before after o (fun x hx => (tiedTo_eq_false_iff id x).mpr (hbefore x hx))
      (by simp [GateOp.tiedTo, hid, hconf])
  match j with
  | 0 => simp [State.ownOp, hsome]
  | 1 => simp [State.ownOp, hsome, hnone 0 (by decide)]
  | 2 => simp [State.ownOp, hsome, hnone 0 (by decide), hnone 1 (by decide)]
  | 3 => simp [State.ownOp, hsome, hnone 0 (by decide), hnone 1 (by decide), hnone 2 (by decide)]

/-- The cancelled operation leaves its list, the drive stays (R137). -/
theorem State.cancelOp_first (s : State) (id : LetterId) (j : Fin 4) (before after : List GateOp) (o : GateOp)
    (hops : (s.pocket j).ops = before ++ o :: after) (hbefore : ∀ x ∈ before, x.id = id → x.confirmed = true)
    (hid : o.id = id) (hconf : o.confirmed = false) (harmed : o.state = .armed) :
    s.cancelOp j id = s.withGate j (before ++ after) (s.pocket j).drive := by
  have herase : (s.pocket j).ops.eraseP (fun x => x.tiedTo id && x.state == .armed) = before ++ after := by
    rw [hops]
    exact eraseP_first _ before after o (fun x hx => by simp [(tiedTo_eq_false_iff id x).mpr (hbefore x hx)])
      (by simp [GateOp.tiedTo, hid, hconf, harmed])
  simp only [State.cancelOp, herase]
  rfl

theorem State.takeDiverted_of_absent (s : State) (h : Header) (id : LetterId) (he : s.entry id = none) :
    s.takeDiverted h id = s := by
  simp only [State.takeDiverted, he, ite_self]

theorem State.takeDiverted_of_no_op (s : State) (h : Header) (id : LetterId) (ht : s.takesFrom h = true)
    (he : (s.entry id).isSome = true) (hop : s.ownOp id = none) :
    s.takeDiverted h id = (s.withdrawClaim id).removeEntry id := by
  obtain ⟨e, he⟩ := Option.isSome_iff_exists.mp he
  simp only [State.takeDiverted, ht, he, hop, if_true]

theorem State.takeDiverted_of_op (s : State) (h : Header) (id : LetterId) (k : Fin 4) (o : GateOp)
    (ht : s.takesFrom h = true) (he : (s.entry id).isSome = true) (hop : s.ownOp id = some (k, o)) :
    s.takeDiverted h id =
      if o.state = .armed then ((s.cancelOp k id).withdrawClaim id).removeEntry id
      else (s.modifyEntry id (fun x => { x with divertedHeard := true })).latch .divertAnomaly := by
  obtain ⟨e, he⟩ := Option.isSome_iff_exists.mp he
  simp only [State.takeDiverted, ht, he, hop, if_true]

/-- Settles O44: by the own operation the DIVERTED finds. -/
theorem divertedReceivedFromUpstream : Obligations.DivertedReceivedFromUpstream := by
  unfold Obligations.DivertedReceivedFromUpstream
  intro s t h id pocket tally hands
  have hdiverted : exec (.divertedReceived h id pocket tally) s = .next (t.takeDiverted h id) :=
    congrArg _ (s.receiveOrHandOn_of_handsOn t h _ hands.1)
  have htakes := hands.taken
  obtain ⟨htable, hentry, hpocket, hownOp, -⟩ := hands.1.kept
  simp only [hdiverted, ← htable, ← hentry, ← hpocket, ← hownOp]
  refine ⟨fun he => ?_, fun he => ⟨fun hop => ?_, fun j before o after hpockets hops hbefore hid hconf => ?_⟩⟩
  · rw [t.takeDiverted_of_absent h id he]
  · rw [t.takeDiverted_of_no_op h id htakes he hop]
  · rw [t.takeDiverted_of_op h id j o htakes he (t.ownOp_first id j before after o hpockets hops hbefore hid hconf)]
    refine ⟨fun harmed => ?_, fun harmed => ?_⟩
    · rw [if_pos harmed, t.cancelOp_first id j before after o hops hbefore hid hconf harmed]
    · rw [if_neg harmed]
      rfl

/-! ### SIGHT -/

theorem State.receive_of_takes (s : State) (h : Header) (owner : State → State) (ht : s.Takes h) :
    s.receive h owner = owner s.acknowledge := by
  obtain ⟨hline, hstation, hposition⟩ := ht
  have hreceive : s.receive h owner = s.receiveOrHandOn h owner := by
    simp [State.receiveOrHandOn, State.sending, hline]
  rw [hreceive]
  exact s.receiveOrHandOn_of_handsOn _ h owner ⟨hstation, hposition, .inl ⟨hline, rfl⟩⟩

/-- The distance of two positions, the first of which is the smaller, in the words of R57. -/
theorem positionDistance_eq (p q : BitVec 14) (h : q.toNat < p.toNat) :
    (p.setWidth 16 - q.setWidth 16 : Word) = BitVec.ofNat 16 (p.toNat - q.toNat) := by
  apply BitVec.eq_of_toNat_eq
  simp only [BitVec.toNat_sub, BitVec.toNat_setWidth, BitVec.toNat_ofNat]
  omega

theorem State.takeSight_of_ignored (s : State) (h : Header) (id : LetterId) (age length : Word)
    (hignored : 16383 < age.toNat ∨ (s.entry id).isSome = true) : s.takeSight h id age length = s := by
  unfold State.takeSight
  rcases hignored with hold | hknown
  · rw [if_neg fun hc => Nat.not_le.mpr hold hc.2]
  · simp only [hknown, if_true, ite_self]

theorem State.takeSight_of_new (s : State) (h : Header) (id : LetterId) (age length : Word)
    (ht : s.takesFrom h = true) (hage : age.toNat ≤ 16383) (hnew : s.entry id = none) :
    s.takeSight h id age length =
      if isAfter (s.expectedPosition h age + s.cfg.tol) s.tach.count = false then
        s.count (fun c => { c with lost := satInc c.lost })
      else if s.table.length < maxEntries then
        { s with
          table :=
            placeEntry (sightEntry id (s.expectedPosition h age) length s.cfg.tol s.cfg.lenMax) s.table }
      else s.latch .tableFull := by
  simp only [State.takeSight, ht, hage, hnew, and_self, if_true, Option.isSome_none, Bool.false_eq_true, if_false]

/-- Settles O45: by the age, the letter ID, the window and the room in the table. -/
theorem sightReceivedFromUpstream : Obligations.SightReceivedFromUpstream := by
  unfold Obligations.SightReceivedFromUpstream
  intro s h id age len htakes t x
  obtain ⟨hframe, hrun, hup⟩ := htakes
  have hsight : exec (.sightReceived h id age len) s = .next (t.takeSight h id age len) :=
    congrArg _ (s.receive_of_takes h _ hframe)
  have hposition : t.expectedPosition h age = x :=
    congrArg (s.line.sofTach - age + ·) (positionDistance_eq s.cfg.position h.position hup)
  rw [hsight]
  refine ⟨fun hignored => by rw [t.takeSight_of_ignored h id age len hignored], fun hage hnew => ?_⟩
  rw [t.takeSight_of_new h id age len (t.takesFrom_of h hrun hup) hage hnew, hposition]
  refine ⟨fun hpast => ?_, fun hahead hroom => ?_, fun hahead hfull => ?_⟩
  · exact congrArg _ (if_pos hpast)
  · exact congrArg _ ((if_neg (ne_true_of_eq_false · hahead)).trans (if_pos hroom))
  · exact congrArg _ ((if_neg (ne_true_of_eq_false · hahead)).trans (if_neg (Nat.not_lt.mpr hfull)))

end Sys2Proof.Machine
end

section
/-! PROOF. The Tracker's points in RUNNING (R74, R77, R78) and the three causes of JAMMED (R72, R178 to R180). -/

namespace Sys2Proof.Machine

/-! ### Expiry and retirement -/

theorem execExpiryPoint_of_expected (s : State) (e : Entry) (hrun : s.runState = .running)
    (h : s.trackerPoint = some e) (he : e.presence = .expected) : execExpiryPoint s = .next (s.expire e) := by
  simp only [execExpiryPoint, h, hrun, he, and_self, if_true]

theorem execRetirementPoint_of_passed (s : State) (e : Entry) (hrun : s.runState = .running)
    (h : s.trackerPoint = some e) (he : e.presence = .passed) :
    execRetirementPoint s = .next (s.afterRetirement e) := by
  simp only [execRetirementPoint, h, hrun, he, and_self, if_true, State.retire_eq]

/-- An expiry is what R74 says. -/
theorem State.expire_eq (s : State) (e : Entry) :
    s.expire e =
      if e.claim.isPeer || e.lostHeard then s.removeEntry e.id
      else
        { (s.removeEntry e.id).enqueue (.lost e.id) with
          counters := { s.counters with lost := satInc s.counters.lost } } := rfl

/-- Settles O24: the first due entry is the Tracker's next point. -/
theorem dueEntriesExpireOrRetire : Obligations.DueEntriesExpireOrRetire := by
  unfold Obligations.DueEntriesExpireOrRetire
  intro s before after e hrun ht hb he
  have hpoint := s.trackerPoint_first before e after ht hb he
  refine ⟨fun hp => ?_, fun hp => ⟨fun hsilent => ?_, fun htells => ?_⟩⟩
  · exact (execExpiryPoint_of_expected s e hrun hpoint hp).trans (congrArg _ (s.expire_eq e))
  · exact (execRetirementPoint_of_passed s e hrun hpoint hp).trans (congrArg _ (if_neg hsilent))
  · exact (execRetirementPoint_of_passed s e hrun hpoint hp).trans (congrArg _ (if_pos htells))

/-! ### The entry into JAMMED -/

theorem execJamPoint_of_reached (s : State) (hrun : s.runState = .running) (hblocked : s.pins.pcellBlocked = true)
    (hpoint : Reached s.tach.count s.blockage.jamAt) : execJamPoint s = .next (s.enterJammed (some .ownPhotocell)) :=
  if_pos ⟨hrun, hblocked, (pointReached_iff _ _).mpr hpoint⟩

/-- The state after a recognised press of STOP, before the run state changes (R180). -/
def State.stopRecognised (s : State) : State :=
  { s with pins := { s.pins with stopHigh := false }, stopReleased := false }

theorem execStopPress_of_recognised (s : State) (hrun : s.runState = .running) (hhigh : s.pins.stopHigh = true)
    (hreleased : s.stopReleased = true) : execStopPress s = .next (s.stopRecognised.enterJammed (some .stop)) := by
  simp [execStopPress, hrun, hhigh, hreleased, State.stopRecognised]

theorem execJamReceived_of_handsOn (s t : State) (h : Header) (reason : Byte) (hrun : s.runState = .running)
    (ht : s.HandsOn h t) : execJamReceived h reason s = .next (t.enterJammed none) := by
  obtain ⟨-, -, -, -, hsame, -, -⟩ := ht.kept
  have htake : t.takeJam = t.enterJammed none := if_pos (hsame.trans hrun)
  rw [execJamReceived, s.receiveOrHandOn_of_handsOn t h _ ht, htake]

/-- Settles O23: each cause enters JAMMED as R179 orders it, with the JAM of the cause. -/
theorem threeCausesEnterJammed : Obligations.ThreeCausesEnterJammed := by
  unfold Obligations.ThreeCausesEnterJammed
  refine ⟨fun f => by cases f <;> rfl, fun s hrun => ⟨?_, ?_, ?_⟩⟩
  · intro hblocked hpoint u
    exact (execJamPoint_of_reached s hrun hblocked hpoint).trans (congrArg _ (s.enterJammed_eq _))
  · intro hhigh hreleased t u
    exact (execStopPress_of_recognised s hrun hhigh hreleased).trans (congrArg _ (t.enterJammed_eq _))
  · intro h reason t ht u
    obtain ⟨-, -, -, -, -, -, hconditions⟩ := ht.kept
    rw [← hconditions]
    exact (execJamReceived_of_handsOn s t h reason hrun ht).trans (congrArg _ (t.enterJammed_eq _))

end Sys2Proof.Machine
end

section
/-! PROOF. The trailing edge in RUNNING (R66): what it meets, and the fragments of R67 to R69. -/

namespace Sys2Proof.Machine

/-! ### What the edge meets -/

/-- The state after a trailing edge, before what the edge ends is taken: PCELL clear and the blockage record NONE. -/
def State.unblocked (s : State) : State := { s.withPcell false with blockage := .none }

theorem execPcellTrailingEdge_of_running (s : State) (hrun : s.runState = .running)
    (hp : s.pins.pcellBlocked = true) : execPcellTrailingEdge s = .next (s.withPcell false).trailingEdge := by
  unfold execPcellTrailingEdge
  rw [if_pos hp]
  exact if_pos hrun

theorem State.entry_id (s : State) (id : LetterId) (e : Entry) (h : s.entry id = some e) : e.id = id := by
  simpa using List.find?_some h

theorem State.trailingEdge_of_blocked (s : State) (id : LetterId) (a j : Pos) (e : Entry)
    (hb : s.blockage = .blocked id a j) (he : s.entry id = some e) :
    (s.withPcell false).trailingEdge =
      if s.tach.count - a < s.cfg.lenMin then s.unblocked.shortBlockage e a (s.tach.count - a)
      else s.unblocked.letterPassed e a (s.tach.count - a) := by
  have hb' : (s.withPcell false).blockage = .blocked id a j := hb
  have he' : (s.withPcell false).entry id = some e := he
  simp only [State.trailingEdge, hb', he']
  rfl

theorem State.trailingEdge_of_kept (s : State) (id : LetterId) (a j : Pos) (hb : s.blockage = .untracked (some id) a j) :
    (s.withPcell false).trailingEdge = s.unblocked.giveTrailing id s.tach.count := by
  have hb' : (s.withPcell false).blockage = .untracked (some id) a j := hb
  simp only [State.trailingEdge, hb']
  rfl

theorem State.trailingEdge_of_no_letter (s : State) (hb : s.blockage = .none ∨ ∃ a j, s.blockage = .untracked none a j) :
    (s.withPcell false).trailingEdge = s.unblocked := by
  rcases hb with hb | ⟨a, j, hb⟩
  · have hb' : (s.withPcell false).blockage = .none := hb
    simp only [State.trailingEdge, hb']
    rfl
  · have hb' : (s.withPcell false).blockage = .untracked none a j := hb
    simp only [State.trailingEdge, hb']
    rfl

/-- A blockage shorter than LEN_MIN ends (R66). -/
theorem execPcellTrailingEdge_of_short (s : State) (id : LetterId) (a j : Pos) (e : Entry) (hrun : s.runState = .running)
    (hp : s.pins.pcellBlocked = true) (hb : s.blockage = .blocked id a j) (he : s.entry id = some e)
    (hshort : (s.tach.count - a).toNat < s.cfg.lenMin.toNat) :
    execPcellTrailingEdge s = .next (s.unblocked.shortBlockage e a (s.tach.count - a)) := by
  rw [execPcellTrailingEdge_of_running s hrun hp, s.trailingEdge_of_blocked id a j e hb he,
    if_pos (BitVec.lt_def.mpr hshort)]

/-! ### A blockage shorter than LEN_MIN (R69) -/

theorem State.shortBlockage_of_unclaimed (s : State) (e : Entry) (a : Pos) (len : Word) (h : ∀ k, e.claim ≠ .own k) :
    s.shortBlockage e a len = s.fragment e := by
  unfold State.shortBlockage
  split
  · rename_i k _ _ hclaim _
    exact absurd hclaim (h k)
  · rfl

theorem State.shortBlockage_of_armed (s : State) (e : Entry) (a : Pos) (len : Word) (k k' : Fin 4) (o : GateOp)
    (hclaim : e.claim = .own k) (hop : s.ownOp e.id = some (k', o)) (harmed : o.state = .armed) :
    s.shortBlockage e a len =
      State.fragment ((s.releaseClaim e.id k .rejudged).cancelOp k e.id) { e with claim := .releasedSelf } := by
  simp only [State.shortBlockage, hclaim, hop, harmed, if_true]

theorem State.shortBlockage_of_fired (s : State) (e : Entry) (a : Pos) (len : Word) (k k' : Fin 4) (o : GateOp)
    (hclaim : e.claim = .own k) (hop : s.ownOp e.id = some (k', o)) (harmed : o.state ≠ .armed) :
    s.shortBlockage e a len = s.letterPassed e a len := by
  simp only [State.shortBlockage, hclaim, hop, harmed, if_false]

/-! ### Fragments (R67, R68) -/

theorem State.fragment_of_own (s : State) (e : Entry) (h : e.origin = .own) : s.fragment e = s.removeEntry e.id := by
  simp only [State.fragment, h]

theorem State.fragment_of_upstream (s : State) (e : Entry) (x : Pos) (h : e.origin = .upstream)
    (hx : e.expectedAt = some x) :
    s.fragment e =
      if reachedAt s.tach.count (x + s.cfg.tol + 1) then
        ((s.discardWindowOf e.id).replaceEntry (revertedEntry s.cfg.tol e)).expire (revertedEntry s.cfg.tol e)
      else (s.discardWindowOf e.id).replaceEntry (revertedEntry s.cfg.tol e) := by
  have hexpiry : (revertedEntry s.cfg.tol e).expiry = some (x + s.cfg.tol + 1) := by simp [revertedEntry, hx]
  simp only [State.fragment, h, hexpiry, pointReached]

/-- The entry waits for its letter again, at its E (R67). -/
theorem State.fragment_of_ahead (s : State) (e : Entry) (x : Pos) (h : e.origin = .upstream)
    (hx : e.expectedAt = some x) (hahead : ¬Reached s.tach.count (some (x + s.cfg.tol + 1))) :
    s.fragment e =
      { s with
        table :=
          placeEntry
            { e with
              presence := .expected, arrival := none, decisionPoint := none, expiry := some (x + s.cfg.tol + 1) }
            (withoutEntry e.id s.table),
        scan := (s.removeEntry e.id).scan,
        frontEnd := (s.removeEntry e.id).frontEnd } := by
  rw [s.fragment_of_upstream e x h hx, if_neg (mt (reachedAt_iff _ _).mp hahead), revertedEntry, hx]
  rfl

theorem withoutEntry_placeEntry (e : Entry) (t : List Entry) :
    withoutEntry e.id (placeEntry e (withoutEntry e.id t)) = withoutEntry e.id t := by
  have hidem : withoutEntry e.id (withoutEntry e.id t) = withoutEntry e.id t := by simp [withoutEntry]
  have hplace (u : List Entry) : withoutEntry e.id (placeEntry e u) = withoutEntry e.id u := by
    rw [placeEntry_eq, withoutEntry, List.filter_append, List.filter_cons_of_neg (by simp), ← List.filter_append,
      List.takeWhile_append_dropWhile, withoutEntry]
  rw [hplace, hidem]

/-- Taking out and placing again an entry, its window discarded, leaves nothing that its removal does not take. -/
theorem State.removeEntry_of_replaced (s : State) (e : Entry) :
    ((s.discardWindowOf e.id).replaceEntry e).removeEntry e.id = s.removeEntry e.id := by
  have hwindow : ((s.discardWindowOf e.id).replaceEntry e).discardWindowOf e.id =
      (s.discardWindowOf e.id).replaceEntry e := by
    rw [State.discardWindowOf_eq, if_neg]
    simp only [State.windowIs, State.replaceEntry_scan, State.discardWindowOf_scan]
    by_cases hw : s.windowIs e.id = true <;> simp_all [State.windowIs]
  rw [State.removeEntry, hwindow, State.replaceEntry_table, State.discardWindowOf_table, withoutEntry_placeEntry]
  rfl

/-- An entry whose window has passed when it would wait again expires (R67, R74). -/
theorem State.fragment_of_past (s : State) (e : Entry) (x : Pos) (h : e.origin = .upstream)
    (hx : e.expectedAt = some x) (hpast : Reached s.tach.count (some (x + s.cfg.tol + 1))) :
    s.fragment e = s.expire e := by
  have hremove : ((s.discardWindowOf e.id).replaceEntry (revertedEntry s.cfg.tol e)).removeEntry e.id =
      s.removeEntry e.id := s.removeEntry_of_replaced (revertedEntry s.cfg.tol e)
  rw [s.fragment_of_upstream e x h hx, if_pos ((reachedAt_iff _ _).mpr hpast)]
  exact congrArg (fun t : State => if e.claim.isPeer || e.lostHeard then t
    else (t.enqueue (.lost e.id)).count (fun c => { c with lost := satInc c.lost })) hremove

/-- A position after the count is no point reached (R3, R5). -/
theorem not_reached_of_isAfter (count x : Pos) (h : isAfter x count = true) : ¬Reached count (some x) := by
  intro hreached
  have hle := of_decide_eq_true ((reachedAt_iff count x).mpr hreached)
  have hge := (isAfter_swap_iff x count).mp h
  omega

/-- Settles O22: by the claim, the origin and the window of the entry, and by the record where there is no entry. -/
theorem trailingEdgeEndsFragmentOrUntracked : Obligations.TrailingEdgeEndsFragmentOrUntracked := by
  unfold Obligations.TrailingEdgeEndsFragmentOrUntracked
  refine ⟨fun s id a j e hrun hp hb he hshort hclaim => ?_, fun s hrun hp => ⟨?_, ?_, ?_, ?_, ?_⟩⟩
  · obtain rfl := s.entry_id id e he
    have hedge : exec .pcellTrailingEdge s = .next (s.unblocked.fragment e) :=
      (execPcellTrailingEdge_of_short s _ a j e hrun hp hb he hshort).trans
        (congrArg _ (s.unblocked.shortBlockage_of_unclaimed e _ _ hclaim))
    rw [hedge]
    refine ⟨fun horigin => ?_, fun x horigin hx hahead => ?_, fun x horigin hx hpast => ?_⟩
    · rw [s.unblocked.fragment_of_own e horigin]
      rfl
    · rw [s.unblocked.fragment_of_ahead e x horigin hx (not_reached_of_isAfter _ _ hahead)]
      rfl
    · rw [s.unblocked.fragment_of_past e x horigin hx hpast]
      rfl
  · intro id a j e k k' o hb he hshort hclaim hop harmed horigin
    obtain rfl := s.entry_id id e he
    refine (execPcellTrailingEdge_of_short s _ a j e hrun hp hb he hshort).trans (congrArg _ ?_)
    rw [s.unblocked.shortBlockage_of_armed e _ _ k k' o hclaim hop harmed]
    exact State.fragment_of_own _ _ horigin
  · intro id a j e k k' o x hb he hshort hclaim hop harmed horigin hx u gone
    obtain rfl := s.entry_id id e he
    have hedge : exec .pcellTrailingEdge s = .next (u.fragment { e with claim := .releasedSelf }) :=
      (execPcellTrailingEdge_of_short s _ a j e hrun hp hb he hshort).trans
        (congrArg _ (s.unblocked.shortBlockage_of_armed e _ _ k k' o hclaim hop harmed))
    have hcount : u.tach.count = s.tach.count := by simp [u]
    have hcfg : u.cfg = s.cfg := by simp only [u, State.cancelOp_cfg, State.releaseClaim_cfg]; rfl
    rw [hedge, ← hcount, ← hcfg]
    exact ⟨fun hahead => congrArg _ (u.fragment_of_ahead { e with claim := .releasedSelf } x horigin hx hahead),
      fun hpast => congrArg _ (u.fragment_of_past { e with claim := .releasedSelf } x horigin hx hpast)⟩
  · intro id a j hb
    exact (execPcellTrailingEdge_of_running s hrun hp).trans (congrArg _ (s.trailingEdge_of_kept id a j hb))
  · intro a j hb
    exact (execPcellTrailingEdge_of_running s hrun hp).trans
      (congrArg _ (s.trailingEdge_of_no_letter (.inr ⟨a, j, hb⟩)))
  · intro hb
    exact (execPcellTrailingEdge_of_running s hrun hp).trans (congrArg _ (s.trailingEdge_of_no_letter (.inl hb)))

end Sys2Proof.Machine
end

section
/-! PROOF. The trailing edge in RUNNING that ends a letter's blockage (R66, R70, R71, R73, R77, R110, R123). -/

namespace Sys2Proof.Machine

/-! ### The letter's measure and its SIGHT, and the points of its operations -/

/-- The state with the letter's entry PASSED and its SIGHT queued and counted, before the Gate Controller and the Sort Unit
are told (R70, step 1 of R71). -/
def State.sighted (s : State) (e : Entry) (a : Pos) (len : Word) : State :=
  (s.modifyEntry e.id (passedEntry s.tach.count len s.cfg.lenMax s.cfg.retire)).queueSight e a len

/-- The operations of every pocket are given the trailing position (R123). -/
theorem State.giveTrailing_eq (s : State) (id : LetterId) (x : Pos) :
    s.giveTrailing id x =
      { s with
        pockets := ⟨s.withTrailing id x 0, s.withTrailing id x 1, s.withTrailing id x 2, s.withTrailing id x 3⟩ } := rfl

theorem State.queueSight_eq (s : State) (e : Entry) (a : Pos) (len : Word) :
    s.queueSight e a len =
      { (if e.origin = .own then s.enqueue (.sight e.id a len) else s) with
        counters :=
          if e.origin = .own then { s.counters with sightings := satInc s.counters.sightings } else s.counters } := by
  unfold State.queueSight
  by_cases h : e.origin = .own
  · simp only [h, if_true]
    rfl
  · simp only [h, if_false]

/-- The Sort Unit is told of a letter whose DOUBLE changed (step 3 of R71, R110). -/
def State.rejudgeIf (s : State) (id : LetterId) (changed : Bool) : State := if changed then s.rejudge id else s

/-- The state after steps 1 to 3 of R71. -/
def State.measured (s : State) (e : Entry) (a : Pos) (len : Word) : State :=
  ((s.sighted e a len).giveTrailing e.id s.tach.count).rejudgeIf e.id (e.double != decide (s.cfg.lenMax < len))

theorem State.letterPassed_eq (s : State) (e : Entry) (a : Pos) (len : Word) :
    s.letterPassed e a len = ((s.measured e a len).setClosePoint e.id).retireIfDue e.id := by
  have hbranch (u v : State) (b c : Bool) : (if c = b then u else v) = if b != c then v else u := by
    cases b <;> cases c <;> rfl
  unfold State.letterPassed
  exact congrArg (fun t : State => (t.setClosePoint e.id).retireIfDue e.id) (hbranch _ _ _ _)

/-- What the close of the window and the retirement read of the state before the edge. -/
theorem State.measured_frame (s : State) (e : Entry) (a : Pos) (len : Word) :
    (s.measured e a len).tach = s.tach ∧ (s.measured e a len).scan = s.scan ∧ (s.measured e a len).cfg = s.cfg
      ∧ (s.measured e a len).runState = s.runState := by
  unfold State.measured State.rejudgeIf State.sighted
  split <;> simp

/-! ### The close point (step 4 of R71, R43) -/

/-- The state with the close point of the letter's open window set. -/
def State.closePointSet (s : State) (id : LetterId) : State :=
  { s with
    scan :=
      s.scan.map (fun r => if r.id = id then { r with closePoint := some (s.tach.count + s.cfg.scanTail) } else r) }

theorem State.closePointSet_of_no_window (s : State) (id : LetterId) (h : ¬∃ r, s.scan = some r ∧ r.id = id) :
    s.closePointSet id = s := by
  have hscan : s.scan.map (fun r => if r.id = id then
      { r with closePoint := some (s.tach.count + s.cfg.scanTail) } else r) = s.scan := by
    cases hs : s.scan with
    | none => rfl
    | some r => exact congrArg some (if_neg fun hid => h ⟨r, hs, hid⟩)
  rw [State.closePointSet, hscan]

theorem State.setClosePoint_of_no_window (s : State) (id : LetterId) (h : ¬∃ r, s.scan = some r ∧ r.id = id) :
    s.setClosePoint id = s := by
  unfold State.setClosePoint
  split
  · rename_i r hr
    exact if_neg fun hid => h ⟨r, hr, hid⟩
  · rfl

theorem State.setClosePoint_of_window (s : State) (id : LetterId) (h : ∃ r, s.scan = some r ∧ r.id = id) :
    s.setClosePoint id =
      if reachedAt s.tach.count (s.tach.count + s.cfg.scanTail) then (s.closePointSet id).closeWindow
      else s.closePointSet id := by
  obtain ⟨r, hr, hid⟩ := h
  simp only [State.setClosePoint, State.closePointSet, hr, hid, if_true, Option.map_some]

/-- Without a window of the letter, or with the close point ahead, the close point is set and no more. -/
theorem State.setClosePoint_of_ahead (s : State) (id : LetterId)
    (h : (¬∃ r, s.scan = some r ∧ r.id = id) ∨ ¬Reached s.tach.count (some (s.tach.count + s.cfg.scanTail))) :
    s.setClosePoint id = s.closePointSet id := by
  by_cases hw : ∃ r, s.scan = some r ∧ r.id = id
  · rw [s.setClosePoint_of_window id hw, if_neg (mt (reachedAt_iff _ _).mp (h.resolve_left (not_not_intro hw)))]
  · rw [s.setClosePoint_of_no_window id hw, s.closePointSet_of_no_window id hw]

/-- A close point that is not ahead closes the window as SCAN_CLOSE_POINT does (R43). -/
theorem State.setClosePoint_of_reached (s : State) (id : LetterId) (hrun : s.runState = .running)
    (hw : ∃ r, s.scan = some r ∧ r.id = id)
    (hpoint : Reached s.tach.count (some (s.tach.count + s.cfg.scanTail))) :
    execScanClosePoint (s.closePointSet id) = .next (s.setClosePoint id) := by
  rw [s.setClosePoint_of_window id hw, if_pos ((reachedAt_iff _ _).mpr hpoint)]
  obtain ⟨r, hr, hid⟩ := hw
  refine execScanClosePoint_of_reached (s.closePointSet id)
    { r with closePoint := some (s.tach.count + s.cfg.scanTail) } hrun ?_ hpoint
  simp only [State.closePointSet, hr, hid, if_true, Option.map_some]

/-! ### The entry that retires -/

/-- The letter's entry is PASSED with this retirement point. -/
def State.PassedUntil (s : State) (id : LetterId) (x : Pos) : Prop :=
  ∃ e, s.entry id = some e ∧ e.presence = .passed ∧ e.retirement = some x

theorem State.entry_modifyEntry (s : State) (id i : LetterId) (f : Entry → Entry) (hf : ∀ e, (f e).id = e.id) :
    (s.modifyEntry i f).entry id = (s.entry id).map (fun e => if e.id = i then f e else e) := by
  have htest : (fun e : Entry => e.id == id) ∘ (fun e => if e.id = i then f e else e) = fun e => e.id == id := by
    funext e
    by_cases h : e.id = i <;> simp [h, hf]
  rw [State.entry, State.modifyEntry_table, List.find?_map, htest, State.entry]

theorem State.PassedUntil.of_table {s t : State} {id : LetterId} {x : Pos} (h : s.PassedUntil id x)
    (ht : t.table = s.table) : t.PassedUntil id x := by
  have hentry : t.entry id = s.entry id := by rw [State.entry, ht, State.entry]
  rw [State.PassedUntil, hentry]
  exact h

/-- A change to an entry that leaves its letter ID, presence and retirement point. -/
theorem State.PassedUntil.modifyEntry {s : State} {id : LetterId} {x : Pos} (h : s.PassedUntil id x) (i : LetterId)
    (f : Entry → Entry) (hid : ∀ e, (f e).id = e.id) (hpresence : ∀ e, (f e).presence = e.presence)
    (hretirement : ∀ e, (f e).retirement = e.retirement) : (s.modifyEntry i f).PassedUntil id x := by
  obtain ⟨e, he, hp, hr⟩ := h
  refine ⟨if e.id = i then f e else e, by rw [s.entry_modifyEntry id i f hid, he]; rfl, ?_, ?_⟩ <;> split
  · exact (hpresence e).trans hp
  · exact hp
  · exact (hretirement e).trans hr
  · exact hr

theorem State.releaseClaim_table (s : State) (id : LetterId) (k : Fin 4) (r : ReleaseReason) :
    (s.releaseClaim id k r).table = (s.modifyEntry id (fun e => { e with claim := .releasedSelf })).table := by
  simp only [State.releaseClaim]
  split <;> rfl

theorem State.PassedUntil.rejudge {s : State} {id : LetterId} {x : Pos} (h : s.PassedUntil id x) (i : LetterId) :
    (s.rejudge i).PassedUntil id x := by
  have hreleased (k : Fin 4) : ((s.releaseClaim i k .rejudged).cancelOp k i).PassedUntil id x :=
    (h.modifyEntry i (fun e => { e with claim := .releasedSelf }) (fun _ => rfl) (fun _ => rfl) (fun _ => rfl)).of_table
      (s.releaseClaim_table i k .rejudged)
  unfold State.rejudge
  split
  · split
    · exact hreleased _
    · exact h
  · exact h

theorem State.PassedUntil.applyRead {s : State} {id : LetterId} {x : Pos} (h : s.PassedUntil id x) (i : LetterId)
    (f : Identity → Identity) : (s.applyRead i f).PassedUntil id x := by
  have hread : (s.withIdentity i f).PassedUntil id x :=
    h.modifyEntry i (fun e => { e with identity := f e.identity }) (fun _ => rfl) (fun _ => rfl) (fun _ => rfl)
  rw [State.applyRead_eq]
  split
  · exact hread.rejudge i
  · exact hread

theorem State.PassedUntil.closeWindow {s : State} {id : LetterId} {x : Pos} (h : s.PassedUntil id x) :
    s.closeWindow.PassedUntil id x := by
  unfold State.closeWindow
  split
  · exact h
  · rename_i r _
    let record := formReadRecord s.cfg.voteMin r
    exact (h.applyRead record.id (verdictRead s.straps.station record.verdict)).of_table (by simp [State.ownRead, record])

theorem State.PassedUntil.setClosePoint {s : State} {id : LetterId} {x : Pos} (h : s.PassedUntil id x) (i : LetterId) :
    (s.setClosePoint i).PassedUntil id x := by
  by_cases hw : ∃ r, s.scan = some r ∧ r.id = i
  · rw [s.setClosePoint_of_window i hw]
    split
    · exact (h.of_table (t := s.closePointSet i) rfl).closeWindow
    · exact h.of_table rfl
  · rwa [s.setClosePoint_of_no_window i hw]

theorem State.PassedUntil.rejudgeIf {s : State} {id : LetterId} {x : Pos} (h : s.PassedUntil id x) (i : LetterId)
    (changed : Bool) : (s.rejudgeIf i changed).PassedUntil id x := by
  unfold State.rejudgeIf
  split
  · exact h.rejudge i
  · exact h

/-- The letter's entry after its measure (R70). -/
theorem State.sighted_passedUntil (s : State) (e : Entry) (a : Pos) (len : Word) (he : s.entry e.id = some e) :
    (s.sighted e a len).PassedUntil e.id (s.tach.count + s.cfg.retire) := by
  have hpassed := s.entry_modifyEntry e.id e.id (passedEntry s.tach.count len s.cfg.lenMax s.cfg.retire) (fun _ => rfl)
  have hmodified : (s.modifyEntry e.id (passedEntry s.tach.count len s.cfg.lenMax s.cfg.retire)).PassedUntil e.id
      (s.tach.count + s.cfg.retire) :=
    ⟨_, hpassed.trans (by rw [he, Option.map_some, if_pos rfl]), rfl, rfl⟩
  exact hmodified.of_table (State.queueSight_table _ e a len)

theorem State.measured_passedUntil (s : State) (e : Entry) (a : Pos) (len : Word) (he : s.entry e.id = some e) :
    (s.measured e a len).PassedUntil e.id (s.tach.count + s.cfg.retire) :=
  ((s.sighted_passedUntil e a len he).of_table
    (t := (s.sighted e a len).giveTrailing e.id s.tach.count) rfl).rejudgeIf e.id _

/-- A retirement point that is not ahead retires an entry without own operation, and no other (R77). -/
theorem State.PassedUntil.retireIfDue {s : State} {id : LetterId} {x : Pos} (h : s.PassedUntil id x) :
    (¬Reached s.tach.count (some x) ∨ s.ownOp id ≠ none → s.retireIfDue id = s)
      ∧ (Reached s.tach.count (some x) → s.ownOp id = none →
        ∃ e, s.entry id = some e ∧ s.retireIfDue id = s.afterRetirement e) := by
  obtain ⟨e, he, hp, hr⟩ := h
  have heq : s.retireIfDue id =
      if pointReached s.tach.count (some x) && (s.ownOp id).isNone then s.afterRetirement e else s := by
    simp only [State.retireIfDue, he, hp, hr, State.retire_eq, decide_true, Bool.true_and]
  have hdue : (pointReached s.tach.count (some x) && (s.ownOp id).isNone) = true ↔
      Reached s.tach.count (some x) ∧ s.ownOp id = none := by
    rw [Bool.and_eq_true, pointReached_iff, Option.isNone_iff_eq_none]
  rw [heq]
  refine ⟨fun hheld => if_neg fun h => ?_, fun hreached hop => ⟨e, he, if_pos (hdue.mpr ⟨hreached, hop⟩)⟩⟩
  obtain ⟨hreached, hop⟩ := hdue.mp h
  exact hheld.elim (· hreached) (· hop)

/-! ### The statement -/

/-- The edge ends the letter's blockage: it is no fragment, by its length or by the letter's operation (R66, R69). -/
theorem execPcellTrailingEdge_of_letter (s : State) (a j : Pos) (e : Entry) (hrun : s.runState = .running)
    (hp : s.pins.pcellBlocked = true) (hb : s.blockage = .blocked e.id a j) (he : s.entry e.id = some e)
    (hletter : s.cfg.lenMin.toNat ≤ (s.tach.count - a).toNat
      ∨ ∃ k k' o, e.claim = .own k ∧ s.ownOp e.id = some (k', o) ∧ o.state ≠ .armed) :
    execPcellTrailingEdge s = .next (s.unblocked.letterPassed e a (s.tach.count - a)) := by
  rw [execPcellTrailingEdge_of_running s hrun hp, s.trailingEdge_of_blocked e.id a j e hb he]
  split
  · rename_i hshort
    obtain ⟨k, k', o, hclaim, hop, harmed⟩ := hletter.resolve_left (Nat.not_le.mpr (BitVec.lt_def.mp hshort))
    rw [s.unblocked.shortBlockage_of_fired e _ _ k k' o hclaim hop harmed]
  · rfl

/-- Settles O21: the edge in the order of R71, each step by its own lemma. -/
theorem trailingEdgePassesLetter : Obligations.TrailingEdgePassesLetter := by
  unfold Obligations.TrailingEdgePassesLetter
  intro s id a j e hrun hp hb he c len hletter t u told windowOpen closes retires
  obtain rfl := s.entry_id id e he
  have htold : (s.unblocked.sighted e a len).giveTrailing e.id c = told := by
    rw [State.giveTrailing_eq, State.sighted, State.queueSight_eq]
    simp only [told, u]
    split <;> rfl
  have hjudged : told.JudgedAgain e.id (e.double != decide (s.cfg.lenMax < len)) (s.unblocked.measured e a len) := by
    rw [← htold]
    exact State.rejudge_judgedAgain _ _ _
  obtain ⟨htach, hscan, hcfg, hrunning⟩ := s.unblocked.measured_frame e a len
  have hpassed := ((s.unblocked.measured_passedUntil e a len he).setClosePoint e.id).retireIfDue
  have hedge : exec .pcellTrailingEdge s =
      .next (((s.unblocked.measured e a len).setClosePoint e.id).retireIfDue e.id) :=
    (execPcellTrailingEdge_of_letter s a j e hrun hp hb he hletter).trans
      (congrArg _ (s.unblocked.letterPassed_eq e a len))
  rw [State.setClosePoint_tach, htach] at hpassed
  obtain ⟨hstays, hretires⟩ := hpassed
  refine ⟨s.unblocked.measured e a len, (s.unblocked.measured e a len).setClosePoint e.id, hjudged, ?_,
    fun h => hedge.trans (congrArg _ (hstays h)), fun h hop => ?_⟩
  · intro marked
    have hmarked : (s.unblocked.measured e a len).closePointSet e.id = marked := by
      refine congrArg (fun scan => { s.unblocked.measured e a len with scan := scan }) ?_
      rw [htach, hscan, hcfg]
      rfl
    have hahead := (s.unblocked.measured e a len).setClosePoint_of_ahead e.id
    have hreached := (s.unblocked.measured e a len).setClosePoint_of_reached e.id (hrunning.trans hrun)
    rw [hmarked, htach, hscan, hcfg] at hahead hreached
    exact ⟨hahead, hreached⟩
  · obtain ⟨passed, hentry, hretired⟩ := hretires h hop
    exact ⟨passed, hentry, hedge.trans (congrArg _ hretired)⟩

end Sys2Proof.Machine
end

section
/-! PROOF. Letter identity: what a read does to an identity (R82, R83), and a READ from upstream (R81, R84, R87 to R89). -/

namespace Sys2Proof.Machine

/-! ### A read and an identity -/

theorem satInc_nibble (x : BitVec 4) : satInc x = if x = 15 then 15 else x + 1 := by
  unfold satInc
  by_cases h : x = 15
  · subst h
    rfl
  · exact (if_neg h).trans (if_neg h).symm

/-- Of two qualities that are equal it does not matter which is kept (R82). -/
theorem better_quality (best q : BitVec 4) :
    (if best ≤ q then q else best) = if best.toNat < q.toNat then q else best := by
  rcases Nat.lt_trichotomy best.toNat q.toNat with hlt | heq | hgt
  · rw [if_pos (BitVec.le_def.mpr hlt.le), if_pos hlt]
  · rw [BitVec.eq_of_toNat_eq heq, ite_self, ite_self]
  · rw [if_neg (fun hle => hgt.not_ge (BitVec.le_def.mp hle)), if_neg hgt.le.not_gt]

theorem Identity.applyGood_of_settled_same (i : Identity) (c : Code) (q : BitVec 4) (reader : Station)
    (hs : i.state = .settled) (hc : i.code = some c) :
    i.applyGood c q reader =
      { i with
        agree := if i.agree = 15 then 15 else i.agree + 1, best := if i.best.toNat < q.toNat then q else i.best } := by
  simp only [Identity.applyGood, hs, hc, if_true, satInc_nibble, better_quality]

theorem Identity.applyGood_of_settled_other (i : Identity) (c : Code) (q : BitVec 4) (reader : Station)
    (hs : i.state = .settled) (hc : i.code ≠ some c) : i.applyGood c q reader = { i with state := .conflict } := by
  simp only [Identity.applyGood, hs, hc, if_false]

theorem Identity.applyFailed_of_read (i : Identity) (h : i.state ≠ .unread) :
    i.applyFailed = { i with fail := if i.fail = 15 then 15 else i.fail + 1 } := by
  rw [← satInc_nibble]
  cases hs : i.state with
  | unread => exact absurd hs h
  | failed | settled | conflict => simp only [Identity.applyFailed, hs]

/-- Settles O15: a good read by the identity's state and code, a failed read by whether it is the first. -/
theorem readsChangeIdentity : Obligations.ReadsChangeIdentity := by
  unfold Obligations.ReadsChangeIdentity
  intro i c q reader
  refine ⟨fun hs => ⟨?_, ?_⟩, fun hs => ?_, i.applyGood_of_settled_same c q reader,
    i.applyGood_of_settled_other c q reader, fun hs => ?_, i.applyFailed_of_read⟩
  · simp only [Identity.applyGood, hs]
  · simp only [Identity.applyFailed, hs]
  · simp only [Identity.applyGood, hs]
  · simp only [Identity.applyGood, hs]

/-! ### The read a READ carries (R89) -/

/-- The outcome stands in the two highest bits of its byte. -/
theorem outcomeField_toNat (outcome : Byte) : (outcome.extractLsb' 6 2).toNat = outcome.toNat / 64 := by
  have hbyte := outcome.isLt
  simp only [BitVec.extractLsb'_toNat, Nat.shiftRight_eq_div_pow]
  omega

/-- A frame without a code carries a failed read or none. (The equations of the definition's match on a number and a code
are dear; at each number it computes.) -/
theorem receivedRead_none (reader : Station) (outcome quality : Byte) :
    receivedRead reader outcome quality none =
      if outcome.toNat / 64 = 2 then some Identity.applyFailed else none := by
  delta receivedRead
  rw [outcomeField_toNat]
  generalize outcome.toNat / 64 = n
  match n with
  | 0 | 1 | 2 | _ + 3 => rfl

/-- A frame with a code carries a good read or none. -/
theorem receivedRead_some (reader : Station) (outcome quality : Byte) (c : Code) :
    receivedRead reader outcome quality (some c) =
      if outcome.toNat / 64 = 1 ∧ checkDigitPasses c = true then
        some (fun i => i.applyGood c (boundedQuality quality) reader)
      else none := by
  delta receivedRead
  rw [outcomeField_toNat]
  generalize outcome.toNat / 64 = n
  match n with
  | 1 =>
    by_cases hpass : checkDigitPasses c = true
    · exact (if_pos hpass).trans (if_pos ⟨rfl, hpass⟩).symm
    · exact (if_neg hpass).trans (if_neg fun ⟨_, h⟩ => hpass h).symm
  | 0 | 2 | _ + 3 => exact (if_neg fun ⟨hone, _⟩ => absurd hone (by omega)).symm

theorem receivedRead_of_neither (reader : Station) (outcome quality : Byte) (code : Option Code)
    (hgood : ¬∃ c, outcome.toNat / 64 = 1 ∧ code = some c ∧ checkDigitPasses c = true)
    (hfailed : ¬(outcome.toNat / 64 = 2 ∧ code = none)) : receivedRead reader outcome quality code = none := by
  cases code with
  | none => rw [receivedRead_none, if_neg fun ho => hfailed ⟨ho, rfl⟩]
  | some c => rw [receivedRead_some, if_neg fun ⟨ho, hpass⟩ => hgood ⟨c, ho, rfl, hpass⟩]

/-! ### The READ at the Letter Tracker -/

theorem State.takeRead_of_read (s : State) (h : Header) (id : LetterId) (outcome quality : Byte) (code : Option Code)
    (f : Identity → Identity) (ht : s.takesFrom h = true) (hf : receivedRead h.station outcome quality code = some f) :
    s.takeRead h id outcome quality code = s.applyRead id f := by
  simp only [State.takeRead, ht, hf, if_true]

theorem State.takeRead_of_ignored (s : State) (h : Header) (id : LetterId) (outcome quality : Byte) (code : Option Code)
    (hf : receivedRead h.station outcome quality code = none) : s.takeRead h id outcome quality code = s := by
  simp only [State.takeRead, hf, ite_self]

theorem State.applyRead_of_absent (s : State) (id : LetterId) (f : Identity → Identity) (he : s.entry id = none) :
    s.applyRead id f = s := by
  simp only [State.applyRead, he]

theorem State.takeRead_of_absent (s : State) (h : Header) (id : LetterId) (outcome quality : Byte) (code : Option Code)
    (he : s.entry id = none) : s.takeRead h id outcome quality code = s := by
  unfold State.takeRead
  cases receivedRead h.station outcome quality code with
  | none => exact ite_self s
  | some f => simp only [s.applyRead_of_absent id f he, ite_self]

/-- Settles O46: the read that the frame carries is applied as an own read is, and a frame without one is ignored. -/
theorem readReceivedFromUpstream : Obligations.ReadReceivedFromUpstream := by
  unfold Obligations.ReadReceivedFromUpstream
  intro s t h id outcome quality sweeps code hands applies
  have hexec : exec (.readReceived h id outcome quality sweeps code) s =
      .next (t.takeRead h id outcome quality code) :=
    congrArg _ (s.receiveOrHandOn_of_handsOn t h _ hands.1)
  obtain ⟨-, hentry, -, hop, -⟩ := hands.1.kept
  have happlies (f : Identity → Identity) (hf : receivedRead h.station outcome quality code = some f) : applies f := by
    have hjudged := t.applyRead_judgedAgain id f
    refine ⟨t.applyRead id f, ?_, fun hfree => hjudged.eq_of_not_armed (hop ▸ hfree), ?_⟩
    · simpa only [State.identityChanges, hentry] using hjudged
    · rw [hexec, t.takeRead_of_read h id outcome quality code f hands.taken hf]
  refine ⟨fun c ho hc hpass => happlies _ ?_, fun ho hc => happlies _ ?_, fun hgood hfailed => ?_, fun he => ?_⟩
  · subst hc
    exact (receivedRead_some h.station outcome quality c).trans (if_pos ⟨ho, hpass⟩)
  · subst hc
    exact (receivedRead_none h.station outcome quality).trans (if_pos ho)
  · rw [hexec, t.takeRead_of_ignored h id outcome quality code
      (receivedRead_of_neither h.station outcome quality code hgood hfailed)]
  · rw [hexec, t.takeRead_of_absent h id outcome quality code (hentry ▸ he)]

end Sys2Proof.Machine
end

section
/-! PROOF. A letter's own operation (R121), the release of its claim (R112, R113, R157) and its re-judgement (R110, R111,
R137). -/

namespace Sys2Proof.Machine

/-! ### The own operation -/

/-- No operation of the list is tied to the letter: those of it are confirmed (R131, log 20). -/
theorem find_tiedTo_eq_none_iff (id : LetterId) (ops : List GateOp) :
    ops.find? (GateOp.tiedTo id) = none ↔ ∀ x ∈ ops, x.id = id → x.confirmed = true := by
  simp only [List.find?_eq_none, Bool.not_eq_true, tiedTo_eq_false_iff]

theorem State.ownOp_eq_none_iff (s : State) (id : LetterId) :
    s.ownOp id = none ↔ ∀ k, ∀ x ∈ (s.pocket k).ops, x.id = id → x.confirmed = true := by
  simp only [← find_tiedTo_eq_none_iff, forall_pocket_iff]
  simp [State.ownOp]

/-- A search through the pockets in order meets those before pocket k first. -/
theorem mem_pockets_before_iff (before after : List (Fin 4)) (k j : Fin 4)
    (h : ([0, 1, 2, 3] : List (Fin 4)) = before ++ k :: after) : j ∈ before ↔ j < k := by
  have hsorted : (before ++ k :: after).Pairwise (· < ·) := h ▸ by decide
  obtain ⟨-, hafter, hbefore⟩ := List.pairwise_append.mp hsorted
  have hall : j ∈ before ++ k :: after := h ▸ by revert j; decide
  constructor
  · exact fun hj => hbefore j hj k List.mem_cons_self
  · intro hlt
    rcases List.mem_append.mp hall with hj | hj
    · exact hj
    · rcases List.mem_cons.mp hj with rfl | hj
      · exact absurd hlt (lt_irrefl j)
      · exact absurd hlt ((List.pairwise_cons.mp hafter).1 j hj).asymm

/-- The pockets before the one of the own operation hold none. -/
theorem State.ownOp_earlier (s : State) (id : LetterId) (k : Fin 4) (o : GateOp) (h : s.ownOp id = some (k, o))
    (j : Fin 4) (hj : j < k) : ∀ x ∈ (s.pocket j).ops, x.id = id → x.confirmed = true := by
  obtain ⟨before, i, after, hsplit, hi, hbefore⟩ := List.findSome?_eq_some_iff.mp h
  obtain ⟨_, _, heq⟩ := Option.map_eq_some_iff.mp hi
  cases heq
  have hnone := hbefore j ((mem_pockets_before_iff before after k j hsplit).mpr hj)
  exact (find_tiedTo_eq_none_iff id _).mp (Option.map_eq_none_iff.mp hnone)

/-- The own operation is the first unconfirmed one of the letter, by pocket and then list order (R121, log 20). -/
theorem State.ownOp_eq_some_iff (s : State) (id : LetterId) (k : Fin 4) (o : GateOp) :
    s.ownOp id = some (k, o) ↔
      (∀ j : Fin 4, j < k → ∀ x ∈ (s.pocket j).ops, x.id = id → x.confirmed = true)
        ∧ ∃ before after, (s.pocket k).ops = before ++ o :: after
          ∧ (∀ x ∈ before, x.id = id → x.confirmed = true) ∧ o.id = id ∧ o.confirmed = false := by
  constructor
  · intro h
    obtain ⟨htied, before, after, hops, hbefore⟩ := List.find?_eq_some_iff_append.mp (s.ownOp_find id k o h)
    have huntied (x : GateOp) (hx : x ∈ before) : x.id = id → x.confirmed = true :=
      (tiedTo_eq_false_iff id x).mp (by simpa using hbefore x hx)
    obtain ⟨hid, hconf⟩ : o.id = id ∧ o.confirmed = false := by simpa [GateOp.tiedTo] using htied
    exact ⟨s.ownOp_earlier id k o h, before, after, hops, huntied, hid, hconf⟩
  · rintro ⟨hearlier, before, after, hops, hbefore, hid, hconf⟩
    exact s.ownOp_first id k before after o hearlier hops hbefore hid hconf

/-! ### The release -/

theorem isClaimFor_iff (id : LetterId) (f : Frame) : isClaimFor id f = true ↔ ∃ k, f = .claim id k := by
  cases f with
  | claim i k => simp [isClaimFor]
  | jam | clear | release | diverted | sight | read | lost | runout | status | join => simp [isClaimFor]

theorem State.claimWaits_iff (s : State) (id : LetterId) :
    s.claimWaits id = true ↔ ∃ q ∈ s.line.queue, (∃ j, q.frame = .claim id j) ∧ q.inFlight = false := by
  simp only [State.claimWaits, List.any_eq_true, Bool.and_eq_true, isClaimFor_iff, Bool.not_eq_true']

/-- The state with one more release counted (R112, R188). -/
def State.releaseCounted (s : State) : State :=
  { s with counters := { s.counters with released := satInc s.counters.released } }

/-- The state with this claim at the letter's entry. -/
def State.setClaim (s : State) (id : LetterId) (c : Claim) : State := s.modifyEntry id (fun x => { x with claim := c })

theorem State.releaseClaim_of_waiting (s : State) (id : LetterId) (k : Fin 4) (reason : ReleaseReason)
    (h : s.claimWaits id = true) :
    s.releaseClaim id k reason = ((s.setClaim id .releasedSelf).withdrawClaim id).releaseCounted :=
  congrArg State.releaseCounted (if_pos h)

theorem State.releaseClaim_of_sent (s : State) (id : LetterId) (k : Fin 4) (reason : ReleaseReason)
    (h : ¬s.claimWaits id = true) :
    s.releaseClaim id k reason = ((s.setClaim id .releasedSelf).enqueue (.release id k reason)).releaseCounted :=
  congrArg State.releaseCounted (if_neg h)

/-! ### The re-judgement -/

theorem State.rejudge_of_no_op (s : State) (id : LetterId) (h : s.ownOp id = none) : s.rejudge id = s := by
  unfold State.rejudge
  rw [h]
  cases s.entry id <;> rfl

theorem State.rejudge_of_op (s : State) (id : LetterId) (e : Entry) (k : Fin 4) (o : GateOp) (he : s.entry id = some e)
    (hop : s.ownOp id = some (k, o)) :
    s.rejudge id =
      if o.state = .armed && !ruleMatches s.cfg (s.rule k) e then (s.releaseClaim id k .rejudged).cancelOp k id else s := by
  simp only [State.rejudge, he, hop]

/-- Settles O26: the own operation by the search through the pockets, the release by whether its CLAIM waits, the
re-judgement by the own operation's state and its pocket's rule. -/
theorem releaseAndRejudgement : Obligations.ReleaseAndRejudgement := by
  unfold Obligations.ReleaseAndRejudgement
  refine ⟨fun s id => ⟨s.ownOp_eq_none_iff id, s.ownOp_eq_some_iff id⟩, isClaimFor_iff, fun s id k reason => ?release,
    fun s id e he => ⟨s.rejudge_of_no_op id, fun k o hop hstays => ?stays, ?released⟩⟩
  case release =>
    intro t waits
    have hwaits : s.claimWaits id = true ↔ waits := s.claimWaits_iff id
    exact ⟨fun h => s.releaseClaim_of_waiting id k reason (hwaits.mpr h),
      fun h => s.releaseClaim_of_sent id k reason (mt hwaits.mp h)⟩
  case stays =>
    rw [s.rejudge_of_op id e k o he hop, if_neg]
    rcases hstays with harmed | hmatch
    · simp [harmed]
    · simp [hmatch]
  case released =>
    intro k before o after hearlier hops hbefore hid hconf harmed hmatch
    have hpockets : (s.releaseClaim id k .rejudged).pockets = s.pockets := s.releaseClaim_pockets id k .rejudged
    have hpocket : (s.releaseClaim id k .rejudged).pocket k = s.pocket k := congrArg (PerPocket.get · k) hpockets
    rw [s.rejudge_of_op id e k o he (s.ownOp_first id k before after o hearlier hops hbefore hid hconf),
      if_pos (by simp [harmed, hmatch]),
      State.cancelOp_first _ id k before after o (hpocket ▸ hops) hbefore hid hconf harmed, State.withGate, hpocket, hpockets]

end Sys2Proof.Machine
end

section
/-! PROOF. Which entries a pocket rule matches (R95, R96), and the decision (R99, R101 to R104, R121, R123). -/

namespace Sys2Proof.Machine

/-! ### The rules -/

/-- The account reference is D2 to D10: the check digit below it, the class above it. -/
theorem codeAccount_toNat (c : Code) : (codeAccount c).toNat = c.toNat / 16 % 16 ^ 9 := by
  simp [codeAccount, BitVec.extractLsb'_toNat, Nat.shiftRight_eq_div_pow]

/-- The class is D0 and D1. -/
theorem codeClass_toNat (c : Code) : (codeClass c).toNat = 16 * codeDigit c 0 + codeDigit c 1 := by
  have hcode := c.isLt
  simp only [codeClass, codeDigit, BitVec.extractLsb'_toNat, Nat.shiftRight_eq_div_pow]
  omega

theorem accountHeld_iff (cfg : StationConfig) (a : Account) : accountHeld cfg a = true ↔ a ∈ cfg.holdList := by
  simp [accountHeld]

theorem ruleMatches_off (cfg : StationConfig) (rule : PocketRule) (e : Entry) (h : rule.kind = .off) :
    ruleMatches cfg rule e = false := by
  simp only [ruleMatches, h]

/-- A letter that is not SETTLED, or has DOUBLE set, is none of a CLASS or HOLD rule. -/
theorem ruleMatches_of_unsure (cfg : StationConfig) (rule : PocketRule) (e : Entry)
    (h : rule.kind = .classRange ∨ rule.kind = .hold) (he : e.identity.state ≠ .settled ∨ e.double = true) :
    ruleMatches cfg rule e = false := by
  rcases h with h | h <;> rcases he with he | he <;> simp [ruleMatches, h, he]

theorem ruleMatches_class_iff (cfg : StationConfig) (rule : PocketRule) (e : Entry) (c : Code)
    (h : rule.kind = .classRange) (hc : e.identity.code = some c) :
    ruleMatches cfg rule e = true ↔
      e.identity.state = .settled ∧ rule.classLow ≤ codeClass c ∧ codeClass c ≤ rule.classHigh ∧ e.double = false
        ∧ (rule.excludeHeld = true → codeAccount c ∉ cfg.holdList) := by
  simp [ruleMatches, h, hc, and_assoc, ← accountHeld_iff, imp_iff_not_or]

theorem ruleMatches_hold_iff (cfg : StationConfig) (rule : PocketRule) (e : Entry) (c : Code)
    (h : rule.kind = .hold) (hc : e.identity.code = some c) :
    ruleMatches cfg rule e = true ↔ e.identity.state = .settled ∧ codeAccount c ∈ cfg.holdList ∧ e.double = false := by
  simp [ruleMatches, h, hc, and_assoc, ← accountHeld_iff]

theorem ruleMatches_noRead_iff (cfg : StationConfig) (rule : PocketRule) (e : Entry) (h : rule.kind = .noRead) :
    ruleMatches cfg rule e = true ↔
      (e.identity.state = .unread ∨ e.identity.state = .failed) ∧ e.double = false := by
  simp [ruleMatches, h]

theorem ruleMatches_suspect_iff (cfg : StationConfig) (rule : PocketRule) (e : Entry) (h : rule.kind = .suspect) :
    ruleMatches cfg rule e = true ↔ e.identity.state = .conflict ∨ e.double = true := by
  simp [ruleMatches, h]

/-- Settles O16: kind by kind. -/
theorem rulesMatchByKind : Obligations.RulesMatchByKind := by
  unfold Obligations.RulesMatchByKind
  refine ⟨codeAccount_toNat, fun cfg rule e => ?_⟩
  intro held
  have hheld (c : Code) (hc : e.identity.code = some c) : held ↔ codeAccount c ∈ cfg.holdList := by
    simp [held, hc]
  refine ⟨ruleMatches_off cfg rule e, ruleMatches_of_unsure cfg rule e, fun h c hc => ?_, fun h c hc => ?_,
    ruleMatches_noRead_iff cfg rule e, ruleMatches_suspect_iff cfg rule e⟩
  · rw [ruleMatches_class_iff cfg rule e c h hc, hheld c hc, ← codeClass_toNat]
    rfl
  · rw [ruleMatches_hold_iff cfg rule e c h hc, hheld c hc]

/-! ### The decision -/

/-- The first entry in table order whose decision point is reached is decided (R101). -/
theorem State.decisionDue_first (s : State) (before after : List Entry) (e : Entry) (ht : s.table = before ++ e :: after)
    (hb : ∀ x ∈ before, ¬Reached s.tach.count x.decisionPoint) (he : Reached s.tach.count e.decisionPoint) :
    s.decisionDue = some e := by
  rw [State.decisionDue, ht]
  exact find_first _ before after e (fun x hx => Bool.eq_false_iff.mpr (mt (pointReached_iff _ _).mp (hb x hx)))
    ((pointReached_iff _ _).mpr he)

theorem execDecisionPoint_of_due (s : State) (e : Entry) (hrun : s.runState = .running) (h : s.decisionDue = some e) :
    execDecisionPoint s = .next (s.decideEntry e) := by
  simp only [execDecisionPoint, h, hrun, if_true]

/-- The test of the choice (R102). -/
theorem State.fits_iff (s : State) (e : Entry) (k : Fin 4) :
    (ruleMatches s.cfg (s.rule k) e && (s.pocket k).available) = true ↔ s.Fits e k := by
  simp only [State.Fits, Pocket.available, Bool.and_eq_true, beq_iff_eq, decide_eq_true_eq]
  rfl

theorem State.choosePocket_first (s : State) (e : Entry) (k : Fin 4) (hfits : s.Fits e k)
    (hearlier : ∀ j : Fin 4, j < k → ¬s.Fits e j) : s.choosePocket e = some k := by
  have hmem : ∀ k : Fin 4, k ∈ ([0, 1, 2, 3] : List (Fin 4)) := by decide
  obtain ⟨before, after, hsplit⟩ := List.append_of_mem (hmem k)
  rw [State.choosePocket, hsplit]
  refine find_first _ before after k (fun j hj => ?_) ((s.fits_iff e k).mpr hfits)
  have hlt : j < k := (mem_pockets_before_iff before after k j hsplit).mp hj
  exact Bool.eq_false_iff.mpr (mt (s.fits_iff e j).mp (hearlier j hlt))

theorem State.choosePocket_none (s : State) (e : Entry) (h : ∀ k, ¬s.Fits e k) : s.choosePocket e = none :=
  List.find?_eq_none.mpr fun k _ => mt (s.fits_iff e k).mp (h k)

/-- The state with the entry decided and its decision point gone (R101). -/
def State.markDecided (s : State) (id : LetterId) : State :=
  s.modifyEntry id (fun x => { x with decided := true, decisionPoint := none })

theorem State.decideEntry_of_choice (s : State) (e : Entry) (k : Fin 4) (hclaim : e.claim = .none)
    (hchoice : (s.markDecided e.id).choosePocket e = some k) :
    s.decideEntry e = (s.markDecided e.id).claimPocket k e := by
  unfold State.markDecided at hchoice
  simp only [State.decideEntry, hclaim, hchoice, if_true]
  rfl

theorem State.decideEntry_of_no_choice (s : State) (e : Entry)
    (h : e.claim ≠ .none ∨ (s.markDecided e.id).choosePocket e = none) : s.decideEntry e = s.markDecided e.id := by
  unfold State.markDecided at h
  rcases h with hclaim | hchoice
  · exact if_neg hclaim
  · simp only [State.decideEntry, hchoice, ite_self]
    rfl

/-! ### The claim -/

/-- R121: the operation stands right before the first one whose fire point is after its own. -/
theorem placeOp_eq (o : GateOp) (ops : List GateOp) :
    placeOp o ops =
      ops.takeWhile (fun x => !isAfter x.fire o.fire) ++ o :: ops.dropWhile (fun x => !isAfter x.fire o.fire) := by
  induction ops with
  | nil => rfl
  | cons x xs ih => by_cases h : isAfter x.fire o.fire <;> simp [placeOp, h, ih]

/-- The release point and confirm close of a new operation are set at once if the letter is PASSED (R123). -/
theorem State.newOp_eq (s : State) (k : Fin 4) (e : Entry) :
    let gate := (s.rule k).gate
    let release := (if e.presence = .passed then e.trailing else none).map (fun x => x + gate + s.cfg.relMargin)
    s.newOp k e =
      { id := e.id, fire := e.arrival.getD 0 + gate - fireAdvance s.tach.p8 s.cfg.latency s.cfg.advMax,
        release := release, confirmClose := release.map (fun x => x + s.cfg.confExt), state := .armed,
        confirmed := false, lateClaim := false } := by
  intro gate release
  unfold State.newOp
  split
  · rename_i hp ht
    simp [release, hp, ht, GateOp.released, gate]
  · rename_i hnot
    have hnone : (if e.presence = .passed then e.trailing else none) = none := by
      split
      · rename_i hp
        exact Option.eq_none_iff_forall_ne_some.mpr fun x hx => hnot x hp hx
      · rfl
    simp [release, hnone, gate]

theorem State.modifyEntry_modifyEntry (s : State) (id : LetterId) (f g : Entry → Entry) (hf : ∀ e, (f e).id = e.id) :
    (s.modifyEntry id f).modifyEntry id g = s.modifyEntry id (fun e => g (f e)) := by
  simp only [State.modifyEntry, List.map_map]
  congr 1
  refine List.map_congr_left fun e _ => ?_
  by_cases h : e.id = id <;> simp [h, hf]

/-- The CLAIM is queued with the claim set and the operation not yet placed; queuing leaves the pockets (R103). -/
theorem State.claimPocket_eq (s : State) (k : Fin 4) (e : Entry) :
    s.claimPocket k e =
      { (s.modifyEntry e.id (fun x => { x with claim := .own k })).enqueue (.claim e.id k) with
        counters := { s.counters with claims := satInc s.counters.claims },
        pockets := s.pockets.set k { s.pocket k with ops := placeOp (s.newOp k e) (s.pocket k).ops } } := rfl

/-- Settles O25: the first due entry, then the first pocket that fits. -/
theorem decisionClaimsFirstPocket : Obligations.DecisionClaimsFirstPocket := by
  unfold Obligations.DecisionClaimsFirstPocket
  intro s before after e hrun ht hb he
  have hexec : exec .decisionPoint s = .next (s.decideEntry e) :=
    execDecisionPoint_of_due s e hrun (s.decisionDue_first before after e ht hb he)
  rw [hexec]
  have hchoice : (s.markDecided e.id).choosePocket e = s.choosePocket e := rfl
  refine ⟨fun k hclaim hfits hearlier => ?claims, fun h => congrArg _ (s.decideEntry_of_no_choice e ?declines)⟩
  case claims =>
    intro t u gate release o ops
    have ht : (s.markDecided e.id).modifyEntry e.id (fun x => { x with claim := .own k }) = t :=
      s.modifyEntry_modifyEntry e.id _ _ fun _ => rfl
    have ho : (s.markDecided e.id).newOp k e = o := State.newOp_eq _ k e
    rw [s.decideEntry_of_choice e k hclaim (hchoice.trans (s.choosePocket_first e k hfits hearlier)),
      State.claimPocket_eq, ht, ho, placeOp_eq]
    rfl
  case declines => exact h.imp_right fun hnone => hchoice.trans (s.choosePocket_none e hnone)

end Sys2Proof.Machine
end

section
/-! PROOF. The confirm close without a confirm (R120, R134 to R136): an ordinary miss with its retirement (R77, R78), and
the miss of a letter placed elsewhere. -/

namespace Sys2Proof.Machine

/-! ### The operation that misses -/

theorem opMisses_eq_false {count : Pos} {o : GateOp}
    (h : ¬(o.state = .trailing ∧ o.confirmed = false ∧ Reached count o.confirmClose)) : opMisses count o = false :=
  Bool.eq_false_iff.mpr (mt (opMisses_iff count o).mp h)

/-- The first operation in list order whose confirm close is reached misses (R134, log 21). -/
theorem execConfirmClose_first (s : State) (k : Fin 4) (before after : List GateOp) (o : GateOp)
    (hops : (s.pocket k).ops = before ++ o :: after) (hbefore : ∀ x ∈ before, opMisses s.tach.count x = false)
    (ho : opMisses s.tach.count o = true) : execConfirmClose k s = .next (s.miss k o) := by
  have hfirst : (s.pocket k).ops.find? (opMisses s.tach.count) = some o := by
    rw [hops]
    exact find_first _ before after o hbefore ho
  simp only [execConfirmClose, hfirst]

/-- No operation before it equals the one that misses, for those do not miss. -/
theorem erase_first_missing (count : Pos) (before after : List GateOp) (o : GateOp)
    (hbefore : ∀ x ∈ before, opMisses count x = false) (ho : opMisses count o = true) :
    (before ++ o :: after).erase o = before ++ after := by
  have hnotin : o ∉ before := fun hmem => by simp [hbefore o hmem] at ho
  rw [List.erase_append_right _ hnotin, List.erase_cons_head]

/-! ### The ordinary miss -/

theorem satInc_missCount (n : BitVec 2) : satInc n = if n = 3 then 3 else n + 1 := by
  unfold satInc
  by_cases h : n = 3
  · subst h
    rfl
  · exact (if_neg h).trans (if_neg h).symm

/-- A pocket with one more miss counted, and its fault flag set at 3 (R120, R135). -/
def Pocket.missCounted (p : Pocket) : Pocket :=
  { p with missCount := satInc p.missCount, fault := p.fault || satInc p.missCount == 3 }

theorem State.countMiss_eq (s : State) (k : Fin 4) :
    s.countMiss k =
      s.withPocket k ((s.pocket k).missCounted.formed (s.rule k) (s.pins.pswap.get k) (s.pins.pfull.get k)) := by
  have hpocket : (s.setPocket k (s.pocket k).missCounted).reformed k =
      (s.pocket k).missCounted.formed (s.rule k) (s.pins.pswap.get k) (s.pins.pfull.get k) := by
    simp only [State.reformed, State.pocket, State.setPocket_pockets, get_set_same]
    rfl
  have hcount : s.countMiss k = (s.setPocket k (s.pocket k).missCounted).formPocket k := rfl
  simp only [hcount, State.formPocket, hpocket, State.setPocket_pockets, set_set]
  rfl

/-- The list is no input of the pocket's state, so the two conditions stay as they follow it (R114). -/
theorem State.dropOp_withPocket (s : State) (k : Fin 4) (p : Pocket) (o : GateOp) :
    (s.withPocket k p).dropOp k o = s.withPocket k { p with ops := p.ops.erase o } := by
  have hpocket : (s.withPocket k p).pocket k = p := get_set_same _ _ _
  have hconditions : pocketConditions (s.pockets.set k p) s.conditions =
      pocketConditions (s.pockets.set k { p with ops := p.ops.erase o }) s.conditions :=
    pocketConditions_of_states _ _ _ fun j => by
      rw [get_set, get_set]
      split <;> rfl
  rw [State.dropOp, hpocket]
  simp only [State.withPocket, State.setPocket, set_set, hconditions]

/-- The station after an ordinary miss that leaves these operations, before the entry's retirement is looked at (R135). -/
def State.missReleased (s : State) (k : Fin 4) (id : LetterId) (ops : List GateOp) : State :=
  (s.releaseClaim id k .miss).withPocket k
    ({ (s.pocket k).missCounted with ops := ops }.formed (s.rule k) (s.pins.pswap.get k) (s.pins.pfull.get k))

theorem State.missReleased_eq (s : State) (k : Fin 4) (o : GateOp) :
    ((s.releaseClaim o.id k .miss).countMiss k).dropOp k o =
      s.missReleased k o.id ((s.pocket k).ops.erase o) := by
  have hpocket : (s.releaseClaim o.id k .miss).pocket k = s.pocket k :=
    congrArg (PerPocket.get · k) (s.releaseClaim_pockets o.id k .miss)
  have hrule : (s.releaseClaim o.id k .miss).rule k = s.rule k :=
    congrArg (fun c : StationConfig => c.rules.get k) (s.releaseClaim_cfg o.id k .miss)
  rw [State.countMiss_eq, State.dropOp_withPocket, hpocket, hrule, State.releaseClaim_pins]
  rfl

theorem State.miss_elsewhere (s : State) (k : Fin 4) (o : GateOp) (h : s.placedElsewhere o = true) :
    s.miss k o = (s.withGate k ((s.pocket k).ops.erase o) (s.pocket k).drive).removeEntry o.id :=
  if_pos h

theorem State.miss_ordinary (s : State) (k : Fin 4) (o : GateOp) (h : ¬s.placedElsewhere o = true) :
    s.miss k o = (s.missReleased k o.id ((s.pocket k).ops.erase o)).retireIfDue o.id := by
  rw [← State.missReleased_eq]
  exact if_neg h

/-- The miss leaves the letter's entry with its claim released. -/
theorem State.missReleased_entry (s : State) (k : Fin 4) (id : LetterId) (ops : List GateOp) :
    (s.missReleased k id ops).entry id = (s.entry id).map (fun e => { e with claim := .releasedSelf }) := by
  have htable : (s.missReleased k id ops).table = (s.setClaim id .releasedSelf).table := s.releaseClaim_table id k .miss
  have hentry : (s.missReleased k id ops).entry id = (s.setClaim id .releasedSelf).entry id := by
    rw [State.entry, htable, State.entry]
  refine hentry.trans ((s.entry_modifyEntry id id (fun x => { x with claim := .releasedSelf }) fun _ => rfl).trans ?_)
  cases he : s.entry id with
  | none => rfl
  | some e => simp [s.entry_id id e he]

/-! ### The retirement of an entry left behind by its last operation (R77) -/

theorem State.retireIfDue_stays (s : State) (id : LetterId)
    (h : (∀ e, s.entry id = some e → e.presence = .passed → ¬Reached s.tach.count e.retirement) ∨ s.ownOp id ≠ none) :
    s.retireIfDue id = s := by
  unfold State.retireIfDue
  split
  · rename_i e he
    refine if_neg fun hdue => ?_
    simp only [Bool.and_eq_true, decide_eq_true_eq, pointReached_iff, Option.isNone_iff_eq_none] at hdue
    obtain ⟨⟨hpassed, hreached⟩, hop⟩ := hdue
    exact h.elim (fun h => h e he hpassed hreached) (· hop)
  · rfl

theorem State.retireIfDue_retires (s : State) (id : LetterId) (e : Entry) (he : s.entry id = some e)
    (hpassed : e.presence = .passed) (hreached : Reached s.tach.count e.retirement) (hop : s.ownOp id = none) :
    s.retireIfDue id = s.afterRetirement e := by
  simp only [State.retireIfDue, he, hpassed, (pointReached_iff _ _).mpr hreached, hop, State.retire_eq]
  rfl

/-- Settles O29: the first operation due misses, as its letter's place and its entry's retirement say. -/
theorem confirmCloseMisses : Obligations.ConfirmCloseMisses := by
  unfold Obligations.ConfirmCloseMisses
  intro s k before after o hops hbefore htrailing hconf hclose p elsewhere misses missed t
  have hbefore' (x : GateOp) (hx : x ∈ before) : opMisses s.tach.count x = false := opMisses_eq_false (hbefore x hx)
  have ho : opMisses s.tach.count o = true := (opMisses_iff _ _).mpr ⟨htrailing, hconf, hclose⟩
  have hexec : exec (.confirmClose k) s = .next (s.miss k o) :=
    execConfirmClose_first s k before after o hops hbefore' ho
  have herase : (s.pocket k).ops.erase o = before ++ after := by
    rw [hops, erase_first_missing s.tach.count before after o hbefore' ho]
  have ht : s.missReleased k o.id (before ++ after) = t := by
    simp only [t, missed, misses, p, ← satInc_missCount]
    rfl
  have htach : t.tach = s.tach := s.releaseClaim_tach o.id k .miss
  have hentry : t.entry o.id = (s.entry o.id).map (fun e => { e with claim := .releasedSelf }) :=
    ht ▸ s.missReleased_entry k o.id (before ++ after)
  rw [hexec]
  refine ⟨fun helse => ?_, fun helse => ⟨fun hstays => ?_, fun e he hpassed hreached hop => ?_⟩⟩
  · rw [s.miss_elsewhere k o ((placedElsewhere_iff s o).mpr helse), herase]
  · rw [s.miss_ordinary k o (mt (placedElsewhere_iff s o).mp helse), herase, ht]
    refine congrArg _ (t.retireIfDue_stays o.id (hstays.imp_left fun hnot e he => ?_))
    obtain ⟨e', he', rfl⟩ := Option.map_eq_some_iff.mp (hentry.symm.trans he)
    rw [htach]
    exact hnot e' he'
  · rw [s.miss_ordinary k o (mt (placedElsewhere_iff s o).mp helse), herase, ht]
    exact congrArg _ (t.retireIfDue_retires o.id _ (hentry.trans (by rw [he, Option.map_some])) hpassed
      (htach ▸ hreached) hop)

end Sys2Proof.Machine
end

section
/-! PROOF. A CLAIM of an upstream station (R106 to R108), and the attempt of the own CLAIM that it withdraws (R107, R151,
R157). -/

namespace Sys2Proof.Machine

/-! ### The CLAIM at the Sort Unit -/

theorem State.takeClaim_of_absent (s : State) (h : Header) (id : LetterId) (pocket : Byte) (he : s.entry id = none) :
    s.takeClaim h id pocket = s := by
  simp only [State.takeClaim, he, ite_self]

theorem State.takeClaim_of_unclaimed (s : State) (h : Header) (id : LetterId) (pocket : Byte) (e : Entry)
    (ht : s.takesFrom h = true) (he : s.entry id = some e) (hc : e.claim = .none) :
    s.takeClaim h id pocket = s.setClaim id (.peer h.station pocket) := by
  simp only [State.takeClaim, ht, he, hc, if_true]
  rfl

/-- The claim of a peer, or one given up, stands (R106). -/
theorem State.takeClaim_of_peer_or_released (s : State) (h : Header) (id : LetterId) (pocket : Byte) (e : Entry)
    (he : s.entry id = some e) (hc : e.claim.isPeer = true ∨ e.claim = .releasedSelf) :
    s.takeClaim h id pocket = s := by
  cases hclaim : e.claim with
  | none | own => simp [hclaim, Claim.isPeer] at hc
  | peer | releasedSelf => simp only [State.takeClaim, he, hclaim, ite_self]

theorem State.takeClaim_of_own (s : State) (h : Header) (id : LetterId) (pocket : Byte) (e : Entry) (k : Fin 4)
    (ht : s.takesFrom h = true) (he : s.entry id = some e) (hc : e.claim = .own k) :
    s.takeClaim h id pocket = s.claimAgainstOwn id h.station pocket := by
  simp only [State.takeClaim, ht, he, hc, if_true]

/-- An ARMED operation gives way to the upstream claim (R107). -/
theorem State.claimAgainstOwn_of_armed (s : State) (id : LetterId) (station : Station) (pocket : Byte) (j : Fin 4)
    (before after : List GateOp) (o : GateOp) (hop : s.ownOp id = some (j, o))
    (hops : (s.pocket j).ops = before ++ o :: after) (hbefore : ∀ x ∈ before, x.id = id → x.confirmed = true)
    (hid : o.id = id) (hconf : o.confirmed = false) (harmed : o.state = .armed) :
    s.claimAgainstOwn id station pocket =
      ((s.withGate j (before ++ after) (s.pocket j).drive).setClaim id (.peer station pocket)).withdrawClaim id := by
  rw [← s.cancelOp_first id j before after o hops hbefore hid hconf harmed]
  simp only [State.claimAgainstOwn, hop, harmed, if_true]
  rfl

/-- One that has fired runs on, marked LATE_CLAIM (R108). -/
theorem State.claimAgainstOwn_of_fired (s : State) (id : LetterId) (station : Station) (pocket : Byte) (j : Fin 4)
    (before after : List GateOp) (o : GateOp) (hop : s.ownOp id = some (j, o))
    (hops : (s.pocket j).ops = before ++ o :: after) (hbefore : ∀ x ∈ before, x.id = id → x.confirmed = true)
    (hid : o.id = id) (hconf : o.confirmed = false) (hfired : o.state ≠ .armed) :
    s.claimAgainstOwn id station pocket =
      (s.withGate j (before ++ { o with lateClaim := true } :: after) (s.pocket j).drive).latch .divertAnomaly := by
  have hmark : modifyFirst (GateOp.tiedTo id) (fun x => { x with lateClaim := true }) (s.pocket j).ops =
      before ++ { o with lateClaim := true } :: after := by
    rw [hops]
    exact modifyFirst_first _ _ before after o (fun x hx => (tiedTo_eq_false_iff id x).mpr (hbefore x hx))
      (by simp [GateOp.tiedTo, hid, hconf])
  simp only [State.claimAgainstOwn, hop, hfired, if_false, hmark]
  rfl

/-! ### The end of an attempt whose frame is gone -/

/-- The line of a station whose own attempt has ended (R149 to R151). -/
def State.attemptOver (s : State) : State := { s with line := { s.line with state := .waitFree, sending := [] } }

theorem frameInFlight_eq_none (l : Line) (h : ∀ q ∈ l.queue, q.inFlight = false) : frameInFlight l = none :=
  List.find?_eq_none.mpr fun q hq => by simp [h q hq]

theorem dropInFlight_eq (l : Line) (h : ∀ q ∈ l.queue, q.inFlight = false) : dropInFlight l = l := by
  have hqueue : l.queue.filter (fun q => !q.inFlight) = l.queue := List.filter_eq_self.mpr fun q hq => by simp [h q hq]
  rw [dropInFlight, hqueue]

/-- A failure of it is not retried and discards nothing (R157). -/
theorem State.failAttempt_of_gone (s : State) (h : ∀ q ∈ s.line.queue, q.inFlight = false) : s.failAttempt = s := by
  simp only [State.failAttempt, frameInFlight_eq_none s.line h]

/-- Its acknowledge clears ISOLATED (R151, R157). -/
theorem State.ackAttempt_of_gone (s : State) (h : ∀ q ∈ s.line.queue, q.inFlight = false) :
    s.ackAttempt = { s with conditions := s.conditions.setTo .isolated false } := by
  simp only [State.ackAttempt, frameInFlight_eq_none s.line h, dropInFlight_eq s.line h]

theorem attemptEnds_of_gone (s : State) (hline : s.line.state = .inFrame .sender)
    (h : ∀ q ∈ s.line.queue, q.inFlight = false) :
    execAttemptEnd false s = .next s.attemptOver ∧ execBitError s = .next s.attemptOver
      ∧ execAttemptEnd true s =
        .next { s.attemptOver with conditions := s.conditions.setTo .isolated false } := by
  have hfail : s.attemptOver.failAttempt = s.attemptOver := s.attemptOver.failAttempt_of_gone h
  have hack := s.attemptOver.ackAttempt_of_gone h
  exact ⟨(if_pos hline).trans (congrArg _ hfail), (if_pos hline).trans (congrArg _ hfail),
    (if_pos hline).trans (congrArg _ hack)⟩

/-- A withdrawn CLAIM leaves no frame in flight behind if no other frame was (R147, R157). -/
theorem State.withdrawClaim_none_inFlight (s : State) (id : LetterId)
    (h : ∀ q ∈ s.line.queue, q.inFlight = true → ∃ i, q.frame = .claim id i) :
    ∀ q ∈ (s.withdrawClaim id).line.queue, q.inFlight = false := by
  intro q hq
  obtain ⟨hmem, hother⟩ := List.mem_filter.mp hq
  refine Bool.eq_false_iff.mpr fun hflight => ?_
  have hclaim : isClaimFor id q.frame = true := (isClaimFor_iff id q.frame).mpr (h q hmem hflight)
  simp [hclaim] at hother

/-- Settles O42: by the entry's claim and, for an own one, by its operation's state. -/
theorem claimReceivedFromUpstream : Obligations.ClaimReceivedFromUpstream := by
  unfold Obligations.ClaimReceivedFromUpstream
  intro s t h id pocket hands withClaim
  have hexec : exec (.claimReceived h id pocket) s = .next (t.takeClaim h id pocket) :=
    congrArg _ (s.receiveOrHandOn_of_handsOn t h _ hands.1)
  have htakes := hands.taken
  obtain ⟨htable, hentry, hpocket, -⟩ := hands.1.kept
  have hset (u : State) (c : Claim) (hu : u.table = s.table) : u.setClaim id c = withClaim u c := by
    rw [State.setClaim, State.modifyEntry, hu]
  rw [hexec, ← hentry, ← hpocket]
  refine ⟨fun he => ?absent, fun e he => ⟨fun hc => ?unclaimed, fun hc => ?stands,
    fun k j before o after hc hearlier hops hbefore hid hconf => ?own⟩⟩
  case absent => rw [t.takeClaim_of_absent h id pocket he]
  case unclaimed => rw [t.takeClaim_of_unclaimed h id pocket e htakes he hc, hset t _ htable]
  case stands => rw [t.takeClaim_of_peer_or_released h id pocket e he hc]
  case own =>
    have hop := t.ownOp_first id j before after o hearlier hops hbefore hid hconf
    have harm (harmed : o.state = .armed) : t.takeClaim h id pocket =
        (withClaim (t.withGate j (before ++ after) (t.pocket j).drive) (.peer h.station pocket)).withdrawClaim id := by
      rw [t.takeClaim_of_own h id pocket e k htakes he hc,
        t.claimAgainstOwn_of_armed id _ pocket j before after o hop hops hbefore hid hconf harmed,
        hset (t.withGate j (before ++ after) (t.pocket j).drive) _ htable]
    refine ⟨fun harmed => congrArg _ (harm harmed), fun hfired => ?fired, fun harmed hline hflight => ?sender⟩
    case fired =>
      rw [t.takeClaim_of_own h id pocket e k htakes he hc,
        t.claimAgainstOwn_of_fired id _ pocket j before after o hop hops hbefore hid hconf hfired]
    case sender =>
      obtain ⟨hstation, hposition, -⟩ := hands.1
      obtain rfl : s = t := State.HandsOn.unique ⟨hstation, hposition, .inr ⟨hline, rfl⟩⟩ hands.1
      intro moved left u
      have hgone : ∀ q ∈ u.line.queue, q.inFlight = false := moved.withdrawClaim_none_inFlight id hflight
      obtain ⟨hfailed, hbit, hacked⟩ := attemptEnds_of_gone u hline hgone
      exact ⟨congrArg _ (harm harmed), hfailed, hbit, hacked⟩

end Sys2Proof.Machine
end

section
/-! PROOF. The maps of the conditions (R184, R187): their bits, and which changes keep their law and leave the conditions that
the laws of Safety.lean tie to the rest of the state as they are. -/

namespace Sys2Proof.Machine

/-! ### Ranks and bits -/

theorem conditionRank_eq (c : Condition) : conditionRank c = c.ctorIdx + 1 := by cases c <;> rfl

theorem conditionRank_injective : Function.Injective conditionRank := fun c d h => by
  rw [conditionRank_eq, conditionRank_eq, Nat.add_right_cancel_iff] at h
  rw [← Condition.ofNat_ctorIdx c, h, Condition.ofNat_ctorIdx]

theorem conditionRank_le (c : Condition) : conditionRank c ≤ 12 := by cases c <;> decide

theorem conditionRank_bit_lt (c : Condition) : conditionRank c - 1 < 16 :=
  Nat.lt_of_le_of_lt (Nat.sub_le_of_le_add (conditionRank_le c)) (by decide)

theorem conditionBit_getLsbD (c : Condition) (i : Nat) :
    (conditionBit c).getLsbD i = decide (i = conditionRank c - 1) := by
  have hle := conditionRank_le c
  rw [conditionBit, BitVec.getLsbD_shiftLeft, BitVec.getLsbD_one]
  by_cases hi : i = conditionRank c - 1
  · simp [hi]
    omega
  · simp [hi]
    omega

/-- The bit of another condition is another bit. -/
theorem conditionBit_getLsbD_rank (c d : Condition) :
    (conditionBit c).getLsbD (conditionRank d - 1) = decide (d = c) := by
  have hc := conditionRank_eq c
  have hd := conditionRank_eq d
  rw [conditionBit_getLsbD]
  exact decide_eq_decide.mpr ⟨fun h => conditionRank_injective (by omega), fun h => h ▸ rfl⟩

/-! ### The values of the conditions after a change -/

theorem Conditions.isActive_setTo (x : Conditions) (c d : Condition) (v : Bool) :
    (x.setTo c v).isActive d = if d = c then v else x.isActive d := by
  unfold Conditions.setTo
  split
  · rename_i hv
    split
    · rename_i hd
      rwa [hd]
    · rfl
  · cases v
    · simp only [Conditions.isActive, Bool.false_eq_true, if_false, BitVec.getLsbD_and, BitVec.getLsbD_not,
        conditionBit_getLsbD_rank, conditionRank_bit_lt]
      split <;> simp [*]
    · simp only [Conditions.isActive, if_true, BitVec.getLsbD_or, conditionBit_getLsbD_rank]
      split <;> simp [*]

/-! ### The law of the maps -/

/-- The part of the conditions' law that reads the maps alone. -/
def Conditions.Lawful (x : Conditions) : Prop :=
  x.active &&& 0xF000#16 = 0 ∧ x.deltas &&& 0xF000#16 = 0 ∧ x.markedLatched &&& 0xFCD9#16 = 0

theorem conditionLaw_iff (s : State) :
    ConditionLaw s ↔ s.conditions.Lawful ∧ (s.conditions.isActive .jammed = true ↔ s.runState = .jammed) := by
  simp only [ConditionLaw, Conditions.Lawful, and_assoc]

theorem and_clear {x m : BitVec 16} (y : BitVec 16) (h : x &&& m = 0) : (x &&& y) &&& m = 0 := by
  rw [BitVec.and_assoc, BitVec.and_comm y m, ← BitVec.and_assoc, h]
  exact BitVec.zero_and

theorem or_clear {x y m : BitVec 16} (hx : x &&& m = 0) (hy : y &&& m = 0) : (x ||| y) &&& m = 0 := by
  rw [BitVec.and_or_distrib_right, hx, hy]
  rfl

theorem conditionBit_clear (c : Condition) : conditionBit c &&& 0xF000#16 = 0 := by cases c <;> decide

theorem Conditions.Lawful.setTo {x : Conditions} (h : x.Lawful) (c : Condition) (v : Bool) : (x.setTo c v).Lawful := by
  obtain ⟨hactive, hdeltas, hmarks⟩ := h
  unfold Conditions.setTo
  split
  · exact ⟨hactive, hdeltas, hmarks⟩
  · refine ⟨?_, or_clear hdeltas (conditionBit_clear c), hmarks⟩
    cases v
    · exact and_clear _ hactive
    · exact or_clear hactive (conditionBit_clear c)

theorem Conditions.Lawful.latch {x : Conditions} (h : x.Lawful) (c : Condition) : (x.latch c).Lawful := by
  obtain ⟨hactive, hdeltas, hmarks⟩ := h.setTo c true
  obtain ⟨-, -, hmarks⟩ := h
  exact ⟨hactive, hdeltas, and_clear _ hmarks⟩

/-- Only latched conditions get the mark of R187. -/
theorem Conditions.Lawful.markReported {x : Conditions} (h : x.Lawful) : x.markReported.Lawful := by
  obtain ⟨hactive, hdeltas, -⟩ := h
  refine ⟨hactive, hdeltas, ?_⟩
  show (x.active &&& latchedBits) &&& 0xFCD9#16 = 0
  have hlatched : latchedBits &&& 0xFCD9#16 = 0#16 := by decide
  rw [BitVec.and_assoc, hlatched]
  exact BitVec.and_zero

theorem Conditions.Lawful.clearReported {x : Conditions} (h : x.Lawful) : x.clearReported.Lawful := by
  obtain ⟨hactive, hdeltas, -⟩ := h
  exact ⟨and_clear _ hactive, and_clear _ hdeltas, BitVec.zero_and⟩

/-! ### The conditions that follow the run state and the pockets -/

/-- The conditions that the laws tie to the run state (R179) and to the pocket states (R114). None is latched. -/
def Condition.tied (c : Condition) : Bool := c == .jammed || c == .pocketFault || c == .pocketFull

/-- From x to y the law of the maps is kept, and the tied conditions have the values they had. -/
def Conditions.Keeps (x y : Conditions) : Prop := x.Lawful → y.Lawful ∧ ∀ c, c.tied = true → y.isActive c = x.isActive c

theorem Conditions.Keeps.refl (x : Conditions) : x.Keeps x := fun h => ⟨h, fun _ _ => rfl⟩

theorem Conditions.Keeps.trans {x y z : Conditions} (h : x.Keeps y) (k : y.Keeps z) : x.Keeps z := fun hx => by
  obtain ⟨hy, hxy⟩ := h hx
  obtain ⟨hz, hyz⟩ := k hy
  exact ⟨hz, fun c hc => (hyz c hc).trans (hxy c hc)⟩

theorem Conditions.setTo_keeps (x : Conditions) (c : Condition) (v : Bool) (hc : c.tied = false) : x.Keeps (x.setTo c v) :=
  fun h => ⟨h.setTo c v, fun d hd => by
    rw [Conditions.isActive_setTo, if_neg]
    rintro rfl
    simp [hc] at hd⟩

theorem Conditions.latch_keeps (x : Conditions) (c : Condition) (hc : c.tied = false) : x.Keeps (x.latch c) :=
  fun h => ⟨h.latch c, fun d hd => (x.setTo_keeps c true hc h).2 d hd⟩

theorem Conditions.markReported_keeps (x : Conditions) : x.Keeps x.markReported := fun h => ⟨h.markReported, fun _ _ => rfl⟩

/-- A condition that is not latched carries no mark, so the acknowledge of a STATUS leaves it (R187). -/
theorem Conditions.clearReported_keeps (x : Conditions) : x.Keeps x.clearReported := fun h => ⟨h.clearReported, fun c hc => by
  obtain ⟨-, -, hmarks⟩ := h
  have hunmarked : x.markedLatched.getLsbD (conditionRank c - 1) = false := by
    have hbit := congrArg (BitVec.getLsbD · (conditionRank c - 1)) hmarks
    simp only [Condition.tied, Bool.or_eq_true, beq_iff_eq, or_assoc] at hc
    rcases hc with rfl | rfl | rfl <;> simpa [conditionRank] using hbit
  simp only [Conditions.isActive, Conditions.clearReported, BitVec.getLsbD_and, BitVec.getLsbD_not, hunmarked,
    conditionRank_bit_lt, decide_true, Bool.not_false, Bool.and_true]⟩

end Sys2Proof.Machine
end

section
/-! PROOF. What a pocket's law reads of it: the state formed from its inputs with the two conditions that follow the states
(R114), and the drive with the states of its operations (R124 to R126). -/

namespace Sys2Proof.Machine

/-! ### POCKET_FAULT and POCKET_FULL -/

theorem any_pocket_iff {α : Type} (f : α → Bool) (v : PerPocket α) : v.any f = true ↔ ∃ k, f (v.get k) = true := by
  rw [exists_pocket_iff]
  simp [PerPocket.any, PerPocket.get, or_assoc]

theorem isActive_pocketConditions_fault (v : PerPocket Pocket) (c : Conditions) :
    (pocketConditions v c).isActive .pocketFault = true ↔ ∃ k, (v.get k).state = .fault := by
  simp [pocketConditions, Conditions.isActive_setTo, any_pocket_iff]

theorem isActive_pocketConditions_full (v : PerPocket Pocket) (c : Conditions) :
    (pocketConditions v c).isActive .pocketFull = true ↔ ∃ k, (v.get k).state = .full ∨ (v.get k).state = .out := by
  simp [pocketConditions, Conditions.isActive_setTo, any_pocket_iff]

theorem isActive_pocketConditions_other (v : PerPocket Pocket) (c : Conditions) (d : Condition) (hfault : d ≠ .pocketFault)
    (hfull : d ≠ .pocketFull) : (pocketConditions v c).isActive d = c.isActive d := by
  simp [pocketConditions, Conditions.isActive_setTo, hfault, hfull]

theorem Conditions.Lawful.pocketConditions {c : Conditions} (h : c.Lawful) (v : PerPocket Pocket) :
    (pocketConditions v c).Lawful :=
  (h.setTo _ _).setTo _ _

/-! ### The state of a pocket -/

/-- A pocket is OFF exactly when its rule is (R114). -/
theorem formedState_eq_off_iff (rule : PocketRule) (swap full fault : Bool) (tally : Word) :
    formedState rule swap full fault tally = .off ↔ rule.kind = .off := by
  unfold formedState
  by_cases hoff : rule.kind = .off
  · simp [hoff]
  · simp only [hoff, if_false]
    repeat' split
    all_goals simp

/-- A pocket's state with what it is formed from besides its rule (R114). -/
structure PocketInputs where
  state : PocketState
  fault : Bool
  tally : Word
  full : Bool
  swap : Bool

def State.inputs (s : State) (k : Fin 4) : PocketInputs where
  state := (s.pocket k).state
  fault := (s.pocket k).fault
  tally := (s.pocket k).tally
  full := s.pins.pfull.get k
  swap := s.pins.pswap.get k

/-- The state of pocket k is the one that R114 forms. -/
def State.Formed (s : State) (k : Fin 4) : Prop :=
  (s.pocket k).state =
    formedState (s.rule k) (s.pins.pswap.get k) (s.pins.pfull.get k) (s.pocket k).fault (s.pocket k).tally

theorem State.rule_of_config {s t : State} (h : t.config = s.config) (k : Fin 4) : t.rule k = s.rule k := by
  simp only [State.rule, State.cfg, h]

theorem State.formed_iff (s : State) (k : Fin 4) :
    s.Formed k ↔
      (s.inputs k).state =
        formedState (s.rule k) (s.inputs k).swap (s.inputs k).full (s.inputs k).fault (s.inputs k).tally :=
  Iff.rfl

theorem State.Formed.of_inputs {s t : State} {k : Fin 4} (h : s.Formed k) (hconfig : t.config = s.config)
    (hinputs : t.inputs k = s.inputs k) : t.Formed k := by
  rw [State.formed_iff] at h ⊢
  rwa [hinputs, State.rule_of_config hconfig]

/-- A pocket that is OFF stays OFF, whatever its inputs do. -/
theorem State.Formed.of_off {s t : State} {k : Fin 4} (h : s.Formed k) (hoff : (s.pocket k).state = .off)
    (hconfig : t.config = s.config) (hstate : (t.pocket k).state = .off) : t.Formed k := by
  have hrule : (s.rule k).kind = .off := (formedState_eq_off_iff _ _ _ _ _).mp (h.symm.trans hoff)
  refine hstate.trans ((formedState_eq_off_iff _ _ _ _ _).mpr ?_).symm
  rwa [State.rule_of_config hconfig]

theorem pocketLaw_iff (s : State) :
    PocketLaw s ↔
      (s.joined = true →
        (∀ k, s.Formed k)
          ∧ (s.conditions.isActive .pocketFault = true ↔ ∃ k, (s.pocket k).state = .fault)
          ∧ (s.conditions.isActive .pocketFull = true ↔ ∃ k, (s.pocket k).state = .full ∨ (s.pocket k).state = .out)) :=
  Iff.rfl

/-! ### The drive of a pocket -/

/-- The two lists hold operations in the same active states (section 7.2). -/
def SameActive (l m : List GateOp) : Prop :=
  ∀ st, st = .pullIn ∨ st = .hold → ((∃ o ∈ m, o.state = st) ↔ ∃ o ∈ l, o.state = st)

theorem active_iff (o : GateOp) : o.active = true ↔ o.state = .pullIn ∨ o.state = .hold := by
  simp [GateOp.active]

/-- The drive's law reads of the list only which active states occur in it. -/
theorem Pocket.driveAgrees_iff (p : Pocket) :
    p.DriveAgrees ↔
      ((∃ o ∈ p.ops, o.state = .pullIn) → ∃ t, p.drive = .pulling t)
        ∧ ((∃ o ∈ p.ops, o.state = .hold) → ∃ b t, p.drive = .holding b t)
        ∧ (p.drive ≠ .off → (∃ o ∈ p.ops, o.state = .pullIn) ∨ ∃ o ∈ p.ops, o.state = .hold) := by
  simp only [Pocket.DriveAgrees, active_iff, ← exists_or, ← and_or_left, forall_exists_index, and_imp]

theorem Pocket.DriveAgrees.of_sameActive {p q : Pocket} (h : p.DriveAgrees) (hops : SameActive p.ops q.ops)
    (hdrive : q.drive = p.drive) : q.DriveAgrees := by
  rw [Pocket.driveAgrees_iff] at h ⊢
  rwa [hops _ (.inl rfl), hops _ (.inr rfl), hdrive]

/-- The operations are changed in place, but not their states. -/
theorem sameActive_of_states {l m : List GateOp} (h : m.map GateOp.state = l.map GateOp.state) : SameActive l m := by
  have hmem (n : List GateOp) (st : OpState) : (∃ o ∈ n, o.state = st) ↔ st ∈ n.map GateOp.state := List.mem_map.symm
  intro st _
  rw [hmem, hmem, h]

/-- An operation that is not active leaves the list. -/
theorem sameActive_eraseP (p : GateOp → Bool) (l : List GateOp) (hp : ∀ o, p o = true → o.active = false) :
    SameActive l (l.eraseP p) := by
  intro st hst
  refine exists_congr fun o => and_congr_left fun ho => List.mem_eraseP_of_neg fun hpo => ?_
  have hidle := hp o hpo
  rw [(active_iff o).mpr (ho ▸ hst)] at hidle
  cases hidle

theorem sameActive_erase (o : GateOp) (l : List GateOp) (ho : o.active = false) : SameActive l (l.erase o) := by
  rw [List.erase_eq_eraseP]
  exact sameActive_eraseP _ l fun x hx => by rwa [← beq_iff_eq.mp hx]

/-- An operation that is not active enters the list. -/
theorem sameActive_placeOp (o : GateOp) (l : List GateOp) (ho : o.active = false) : SameActive l (placeOp o l) := by
  intro st hst
  refine exists_congr fun x => and_congr_left fun hx => ?_
  rw [mem_placeOp, or_iff_right]
  rintro rfl
  rw [(active_iff x).mpr (hx ▸ hst)] at ho
  cases ho

theorem map_state_modifyFirst (p : GateOp → Bool) (f : GateOp → GateOp) (l : List GateOp)
    (hf : ∀ o, (f o).state = o.state) : (modifyFirst p f l).map GateOp.state = l.map GateOp.state := by
  induction l with
  | nil => rfl
  | cons x xs ih => unfold modifyFirst; split <;> simp [hf, ih]

theorem mem_modifyFirst {α : Type} (p : α → Bool) (f : α → α) (l : List α) (x : α) (h : x ∈ modifyFirst p f l) :
    x ∈ l ∨ ∃ y ∈ l, p y = true ∧ x = f y := by
  induction l with
  | nil => exact .inl h
  | cons y ys ih =>
    unfold modifyFirst at h
    split at h
    · rename_i hy
      rcases List.mem_cons.mp h with rfl | hx
      · exact .inr ⟨y, List.mem_cons_self, hy, rfl⟩
      · exact .inl (List.mem_cons_of_mem _ hx)
    · rcases List.mem_cons.mp h with rfl | hx
      · exact .inl List.mem_cons_self
      · exact (ih hx).imp (List.mem_cons_of_mem _) fun ⟨z, hz, hpz⟩ => ⟨z, List.mem_cons_of_mem _ hz, hpz⟩

/-- The first element that passes the test is changed. -/
theorem modifyFirst_changes {α : Type} (p : α → Bool) (f : α → α) (l : List α) (h : l.any p = true) :
    ∃ y, p y = true ∧ f y ∈ modifyFirst p f l := by
  induction l with
  | nil => cases h
  | cons y ys ih =>
    unfold modifyFirst
    split
    · rename_i hy
      exact ⟨y, hy, List.mem_cons_self⟩
    · rename_i hy
      obtain ⟨z, hz, hmem⟩ := ih (by simpa [hy] using h)
      exact ⟨z, hz, List.mem_cons_of_mem _ hmem⟩

/-! ### What the drive's commands do to a pocket -/

theorem firedState_agrees (pullIn : Word) (d : Drive) :
    (firedState d = .pullIn → ∃ t, driveOnFire pullIn d = .pulling t)
      ∧ (firedState d = .hold → ∃ b t, driveOnFire pullIn d = .holding b t)
      ∧ (firedState d = .pullIn ∨ firedState d = .hold) := by
  cases d <;> simp [firedState, driveOnFire]

/-- A firing operation goes into the phase of the drive, which it starts from OFF (R125). -/
theorem Pocket.DriveAgrees.fired {p : Pocket} (h : p.DriveAgrees) (count : Pos) (pullIn : Word)
    (hfires : p.ops.any (opFires count) = true) :
    ({ p with
        ops := modifyFirst (opFires count) (fun o => { o with state := firedState p.drive }) p.ops,
        drive := driveOnFire pullIn p.drive } : Pocket).DriveAgrees := by
  obtain ⟨hpull, hhold, -⟩ := h
  obtain ⟨hpulling, hholding, hactive⟩ := firedState_agrees pullIn p.drive
  obtain ⟨y, -, hy⟩ := modifyFirst_changes (opFires count) (fun o => { o with state := firedState p.drive }) p.ops hfires
  refine ⟨fun o ho hst => ?_, fun o ho hst => ?_, fun _ => ⟨_, hy, (active_iff _).mpr hactive⟩⟩
  · rcases mem_modifyFirst _ _ _ o ho with hold | ⟨z, -, -, rfl⟩
    · obtain ⟨t, ht⟩ := hpull o hold hst
      exact ⟨t, by simp [ht, driveOnFire]⟩
    · exact hpulling hst
  · rcases mem_modifyFirst _ _ _ o ho with hold | ⟨z, -, -, rfl⟩
    · obtain ⟨b, t, ht⟩ := hhold o hold hst
      exact ⟨b, t, by simp [ht, driveOnFire]⟩
    · exact hholding hst

/-- The operation of a list after the pull-in: the phase of a PULL_IN operation becomes HOLD (R126). -/
def pulledIn (o : GateOp) : GateOp := if o.state = .pullIn then { o with state := .hold } else o

theorem pulledIn_state (o : GateOp) : (pulledIn o).state = if o.state = .pullIn then .hold else o.state := by
  unfold pulledIn
  split <;> rfl

/-- The end of the pull-in takes the drive and every PULL_IN operation into HOLDING (R126). -/
theorem Pocket.DriveAgrees.pulledIn {p : Pocket} (h : p.DriveAgrees) (t holdOn : Word) (hd : p.drive = .pulling t) :
    ({ p with ops := p.ops.map pulledIn, drive := .holding true holdOn } : Pocket).DriveAgrees := by
  obtain ⟨-, -, hon⟩ := h
  refine ⟨fun o ho hst => ?_, fun _ _ _ => ⟨true, holdOn, rfl⟩, fun _ => ?_⟩
  · obtain ⟨x, -, rfl⟩ := List.mem_map.mp ho
    rw [pulledIn_state] at hst
    split at hst
    · cases hst
    · rename_i hx
      exact absurd hst hx
  · obtain ⟨x, hx, hactive⟩ := hon (by rw [hd]; nofun)
    refine ⟨_, List.mem_map_of_mem hx, (active_iff _).mpr ?_⟩
    rw [pulledIn_state]
    split
    · exact .inr rfl
    · exact (active_iff x).mp hactive

/-- A drive that stays in its phase (R126, R127). -/
theorem Pocket.DriveAgrees.of_phase {p : Pocket} (h : p.DriveAgrees) (d : Drive)
    (hpulling : ∀ t, p.drive = .pulling t → ∃ t', d = .pulling t')
    (hholding : ∀ b t, p.drive = .holding b t → ∃ b' t', d = .holding b' t') (hoff : p.drive = .off → d = .off) :
    ({ p with drive := d } : Pocket).DriveAgrees := by
  obtain ⟨hpull, hhold, hon⟩ := h
  refine ⟨fun o ho hst => ?_, fun o ho hst => ?_, fun hd => hon fun hp => hd (hoff hp)⟩
  · obtain ⟨t, ht⟩ := hpull o ho hst
    exact hpulling t ht
  · obtain ⟨b, t, ht⟩ := hhold o ho hst
    exact hholding b t ht

theorem Pocket.DriveAgrees.tick {p : Pocket} (h : p.DriveAgrees) : ({ p with drive := p.drive.tick } : Pocket).DriveAgrees :=
  h.of_phase _ (fun t ht => ⟨countDown t, by rw [ht]; rfl⟩) (fun b t ht => ⟨b, countDown t, by rw [ht]; rfl⟩)
    fun hd => by rw [hd]; rfl

/-- A list whose active operations were there before, with a drive that is needed only while there is one (R124, R128). -/
theorem Pocket.DriveAgrees.driveAfter {p : Pocket} (h : p.DriveAgrees) (ops : List GateOp)
    (hops : ∀ o ∈ ops, o.active = true → o ∈ p.ops) :
    ({ p with ops := ops, drive := driveAfter ops p.drive } : Pocket).DriveAgrees := by
  obtain ⟨hpull, hhold, -⟩ := h
  have hdrive (o : GateOp) (ho : o ∈ ops) (ha : o.active = true) : Machine.driveAfter ops p.drive = p.drive :=
    if_pos (List.any_eq_true.mpr ⟨o, ho, ha⟩)
  refine ⟨fun o ho hst => ?_, fun o ho hst => ?_, fun hon => ?_⟩
  · have ha := (active_iff o).mpr (.inl hst)
    obtain ⟨t, ht⟩ := hpull o (hops o ho ha) hst
    exact ⟨t, (hdrive o ho ha).trans ht⟩
  · have ha := (active_iff o).mpr (.inr hst)
    obtain ⟨b, t, ht⟩ := hhold o (hops o ho ha) hst
    exact ⟨b, t, (hdrive o ho ha).trans ht⟩
  · by_contra hnone
    refine hon (if_neg fun hany => hnone ?_)
    exact List.any_eq_true.mp hany

theorem Pocket.driveAgrees_of_empty (p : Pocket) (hops : p.ops = []) (hdrive : p.drive = .off) : p.DriveAgrees :=
  ⟨by simp [hops], by simp [hops], fun hon => absurd hdrive hon⟩

/-- The release of an operation brings no new active one (R128). -/
theorem mem_of_mem_releasedOps (count : Pos) (o x : GateOp) (ops : List GateOp) (hx : x ∈ releasedOps count o ops)
    (ha : x.active = true) : x ∈ ops := by
  unfold releasedOps at hx
  split at hx
  · exact List.mem_of_mem_eraseP hx
  · rcases mem_modifyFirst _ _ _ x hx with hx | ⟨y, -, -, rfl⟩
    · exact hx
    · cases ha

theorem inactive_of_state {o : GateOp} (h : o.state = .armed ∨ o.state = .trailing) : o.active = false := by
  rcases h with h | h <;> simp [GateOp.active, h]

/-- A confirm ends a TRAILING operation and marks any other, whose state it leaves (R131). -/
theorem sameActive_confirmedOps (o : GateOp) (ops : List GateOp) (h : ops.find? GateOp.eligible = some o) :
    SameActive ops (confirmedOps o ops) := by
  unfold confirmedOps
  split
  · rename_i htrailing
    have herase := eraseP_eq_erase_of_find GateOp.eligible (fun _ => true) ops o h rfl
    simp only [Bool.and_true] at herase
    rw [herase]
    exact sameActive_erase o ops (inactive_of_state (.inr htrailing))
  · exact sameActive_of_states (map_state_modifyFirst _ _ _ fun _ => rfl)

end Sys2Proof.Machine
end

section
/-! PROOF. The laws of the drives, of the conditions and of the pocket states together (State.PocketLawsKept), and the
changes of the state that leave all they read as it is (State.Alike). -/

namespace Sys2Proof.Machine

/-- From s to t the law of the drives is kept, and that of the conditions together with that of the pocket states. -/
structure State.PocketLawsKept (s t : State) : Prop where
  drives : DriveLaw s → DriveLaw t
  signals : ConditionLaw s → PocketLaw s → ConditionLaw t ∧ PocketLaw t

theorem State.PocketLawsKept.refl (s : State) : s.PocketLawsKept s := ⟨id, fun h i => ⟨h, i⟩⟩

theorem State.PocketLawsKept.trans {s t u : State} (h : s.PocketLawsKept t) (i : t.PocketLawsKept u) :
    s.PocketLawsKept u where
  drives := i.drives ∘ h.drives
  signals hc hp := by
    obtain ⟨hc', hp'⟩ := h.signals hc hp
    exact i.signals hc' hp'

/-! ### Changes that the laws do not see -/

/-- From s to t the run state and the configuration are the same, every drive agrees with its list if it did, the conditions
are kept, and every pocket but those excepted has its state and inputs. -/
structure State.AlikeBut (excepted : Fin 4 → Prop) (s t : State) : Prop where
  runState : t.runState = s.runState
  config : t.config = s.config
  inputs : ∀ k, ¬excepted k → t.inputs k = s.inputs k
  drives : ∀ k, (s.pocket k).DriveAgrees → (t.pocket k).DriveAgrees
  conditions : s.conditions.Keeps t.conditions

/-- No pocket is excepted. -/
abbrev State.Alike (s t : State) : Prop := State.AlikeBut (fun _ => False) s t

theorem State.AlikeBut.refl {e : Fin 4 → Prop} (s : State) : s.AlikeBut e s :=
  ⟨rfl, rfl, fun _ _ => rfl, fun _ => id, .refl s.conditions⟩

theorem State.Alike.refl (s : State) : s.Alike s := State.AlikeBut.refl s

theorem State.AlikeBut.trans {e : Fin 4 → Prop} {s t u : State} (h : s.AlikeBut e t) (i : t.AlikeBut e u) :
    s.AlikeBut e u where
  runState := i.runState.trans h.runState
  config := i.config.trans h.config
  inputs k hk := (i.inputs k hk).trans (h.inputs k hk)
  drives k := i.drives k ∘ h.drives k
  conditions := h.conditions.trans i.conditions

theorem State.Alike.trans {s t u : State} (h : s.Alike t) (i : t.Alike u) : s.Alike u := State.AlikeBut.trans h i

theorem State.Alike.but {s t : State} (h : s.Alike t) (e : Fin 4 → Prop) : s.AlikeBut e t :=
  { h with inputs := fun k _ => h.inputs k id }

theorem State.joined_of_runState {s t : State} (h : t.runState = s.runState) : t.joined = s.joined := by
  simp only [State.joined, h]

/-- The conditions' law reads the run state and the conditions. -/
theorem ConditionLaw.of_alike {s t : State} (h : ConditionLaw s) (hrun : t.runState = s.runState)
    (hc : s.conditions.Keeps t.conditions) : ConditionLaw t := by
  rw [conditionLaw_iff] at h ⊢
  obtain ⟨hlawful, hjammed⟩ := h
  obtain ⟨hlawful', htied⟩ := hc hlawful
  exact ⟨hlawful', by rw [htied _ rfl, hrun, hjammed]⟩

theorem State.Alike.pocketLawsKept {s t : State} (w : s.Alike t) : s.PocketLawsKept t where
  drives h k := w.drives k (h k)
  signals hc hp := by
    refine ⟨hc.of_alike w.runState w.conditions, (pocketLaw_iff t).mpr fun hj => ?_⟩
    obtain ⟨hformed, hfault, hfull⟩ := (pocketLaw_iff s).mp hp (State.joined_of_runState w.runState ▸ hj)
    obtain ⟨-, htied⟩ := w.conditions ((conditionLaw_iff s).mp hc).1
    have hstate (k : Fin 4) : (t.pocket k).state = (s.pocket k).state := congrArg PocketInputs.state (w.inputs k id)
    simp only [hstate, htied .pocketFault rfl, htied .pocketFull rfl]
    exact ⟨fun k => (hformed k).of_inputs w.config (w.inputs k id), hfault, hfull⟩

theorem State.formPocket_pocket (s : State) (k j : Fin 4) :
    (s.formPocket k).pocket j = if j = k then s.reformed k else s.pocket j :=
  get_set s.pockets j k (s.reformed k)

theorem State.formPocket_formed (s : State) (k : Fin 4) : (s.formPocket k).Formed k := by
  unfold State.Formed
  rw [State.formPocket_pocket, if_pos rfl]
  rfl

theorem State.formPocket_inputs (s : State) (k j : Fin 4) (h : j ≠ k) : (s.formPocket k).inputs j = s.inputs j := by
  simp only [State.inputs, State.formPocket_pocket, if_neg h]
  rfl

/-- A pocket whose inputs have changed has its state formed anew (R114). -/
theorem State.AlikeBut.formPocket {s t : State} {k : Fin 4} (w : s.AlikeBut (· = k) t) :
    s.PocketLawsKept (t.formPocket k) where
  drives h j := by
    have hj := w.drives j (h j)
    rw [State.formPocket_pocket]
    split
    · rename_i heq
      exact heq ▸ hj
    · exact hj
  signals hc hp := by
    refine ⟨?_, (pocketLaw_iff _).mpr fun hj => ⟨fun j => ?_, ?_, ?_⟩⟩
    · have ht := (conditionLaw_iff t).mp (hc.of_alike w.runState w.conditions)
      refine (conditionLaw_iff _).mpr ⟨ht.1.pocketConditions _, ?_⟩
      rw [State.formPocket_conditions, isActive_pocketConditions_other _ _ .jammed (by decide) (by decide)]
      exact ht.2
    · by_cases h : j = k
      · exact h ▸ t.formPocket_formed k
      · obtain ⟨hformed, -⟩ := (pocketLaw_iff s).mp hp (State.joined_of_runState w.runState ▸ hj)
        exact (hformed j).of_inputs w.config ((t.formPocket_inputs k j h).trans (w.inputs j h))
    · exact isActive_pocketConditions_fault _ _
    · exact isActive_pocketConditions_full _ _

/-! ### Pockets -/

theorem State.setPocket_pocket (s : State) (k j : Fin 4) (p : Pocket) :
    (s.setPocket k p).pocket j = if j = k then p else s.pocket j :=
  get_set s.pockets j k p

theorem State.setPocket_drives (s : State) (k : Fin 4) (p : Pocket) (hp : (s.pocket k).DriveAgrees → p.DriveAgrees)
    (j : Fin 4) (h : (s.pocket j).DriveAgrees) : ((s.setPocket k p).pocket j).DriveAgrees := by
  rw [State.setPocket_pocket]
  split
  · rename_i heq
    exact hp (heq ▸ h)
  · exact h

/-- A pocket may change but for its state and what the state is formed from. -/
theorem State.setPocket_alike (s : State) (k : Fin 4) (p : Pocket) (hstate : p.state = (s.pocket k).state)
    (hfault : p.fault = (s.pocket k).fault) (htally : p.tally = (s.pocket k).tally)
    (hdrive : (s.pocket k).DriveAgrees → p.DriveAgrees) : s.Alike (s.setPocket k p) := by
  refine { State.Alike.refl s with inputs := fun j _ => ?_, drives := s.setPocket_drives k p hdrive }
  simp only [State.inputs, State.setPocket_pocket]
  split
  · rename_i h
    simp [h, hstate, hfault, htally]
  · rfl

/-- The list is changed by operations that are not active, or in place. -/
theorem State.setOps_alike (s : State) (k : Fin 4) (ops : List GateOp) (h : SameActive (s.pocket k).ops ops) :
    s.Alike (s.setPocket k { s.pocket k with ops := ops }) :=
  s.setPocket_alike k _ rfl rfl rfl fun hp => hp.of_sameActive h rfl

theorem State.setPocket_alikeBut (s : State) (k : Fin 4) (p : Pocket)
    (hdrive : (s.pocket k).DriveAgrees → p.DriveAgrees) : s.AlikeBut (· = k) (s.setPocket k p) := by
  refine { (State.Alike.refl s).but (· = k) with inputs := fun j h => ?_, drives := s.setPocket_drives k p hdrive }
  simp only [State.inputs, State.setPocket_pocket, if_neg h]
  rfl

/-! ### The line -/

theorem countDiscard_keeps (w : Line × Conditions) : w.2.Keeps (countDiscard w).2 := w.2.latch_keeps _ rfl

theorem placeNew_keeps (f : Frame) (w : Line × Conditions) : w.2.Keeps (placeNew f w).2 := by
  unfold placeNew
  split
  · exact .refl _
  · dsimp only
    split
    · exact countDiscard_keeps (_, w.2)
    · exact countDiscard_keeps w

theorem offerFrame_keeps (f : Frame) (w : Line × Conditions) : w.2.Keeps (offerFrame f w).2 := by
  unfold offerFrame
  split
  · exact .refl _
  · split
    · exact .refl _
    · exact placeNew_keeps f w

theorem startAttempt_keeps (s : State) (w : Line × Conditions) : w.2.Keeps (startAttempt s w).2 := by
  unfold startAttempt
  split
  · exact .refl _
  · split
    · exact countDiscard_keeps (_, w.2)
    · dsimp only
      split
      · exact w.2.markReported_keeps
      · exact .refl _

theorem startIfFree_keeps (s : State) (w : Line × Conditions) : w.2.Keeps (startIfFree s w).2 := by
  unfold startIfFree
  split
  · exact startAttempt_keeps s w
  · exact .refl _

/-- The line may change as it will. -/
theorem State.line_alike (s : State) (l : Line) (c : Conditions) (hc : s.conditions.Keeps c) :
    s.Alike { s with line := l, conditions := c } :=
  { State.Alike.refl s with conditions := hc }

theorem State.enqueue_alike (s : State) (f : Frame) : s.Alike (s.enqueue f) :=
  s.line_alike _ _ ((offerFrame_keeps f (s.line, s.conditions)).trans (startIfFree_keeps s _))

theorem State.latch_alike (s : State) (c : Condition) (hc : c.tied = false) : s.Alike (s.latch c) :=
  s.line_alike s.line _ (s.conditions.latch_keeps c hc)

/-! ### What the blocks do with letters -/

theorem State.modifyEntry_alike (s : State) (id : LetterId) (f : Entry → Entry) : s.Alike (s.modifyEntry id f) :=
  { State.Alike.refl s with }

theorem State.removeEntry_alike (s : State) (id : LetterId) : s.Alike (s.removeEntry id) := { State.Alike.refl s with }

theorem State.count_alike (s : State) (f : Counters → Counters) : s.Alike (s.count f) := { State.Alike.refl s with }

theorem State.withdrawClaim_alike (s : State) (id : LetterId) : s.Alike (s.withdrawClaim id) := { State.Alike.refl s with }

theorem State.cancelOp_alike (s : State) (k : Fin 4) (id : LetterId) : s.Alike (s.cancelOp k id) :=
  s.setOps_alike k _ (sameActive_eraseP _ _ fun o ho => by
    simp only [Bool.and_eq_true, beq_iff_eq] at ho
    exact inactive_of_state (.inl ho.2))

theorem State.dropOp_alike (s : State) (k : Fin 4) (o : GateOp) (ho : o.active = false) : s.Alike (s.dropOp k o) :=
  s.setOps_alike k _ (sameActive_erase o _ ho)

theorem State.releaseClaim_alike (s : State) (id : LetterId) (k : Fin 4) (r : ReleaseReason) :
    s.Alike (s.releaseClaim id k r) := by
  unfold State.releaseClaim
  refine (s.modifyEntry_alike id (fun e => { e with claim := .releasedSelf })).trans (.trans ?_ (State.count_alike _ _))
  split
  · exact State.withdrawClaim_alike _ id
  · exact State.enqueue_alike _ _

theorem State.rejudge_alike (s : State) (id : LetterId) : s.Alike (s.rejudge id) := by
  unfold State.rejudge
  split
  · split
    · exact (s.releaseClaim_alike id _ _).trans (State.cancelOp_alike _ _ id)
    · exact .refl s
  · exact .refl s

theorem State.swapCancels_alike (s : State) (k : Fin 4) (ops : List GateOp) :
    s.Alike (ops.foldl (fun u o => u.swapCancel k o) s) := by
  induction ops generalizing s with
  | nil => exact .refl s
  | cons o rest ih =>
    have hcancel : s.Alike (s.swapCancel k o) := by
      unfold State.swapCancel
      split
      · exact (s.releaseClaim_alike o.id k _).trans (State.cancelOp_alike _ k o.id)
      · exact .refl s
    exact hcancel.trans (ih _)

theorem State.retire_alike (s : State) (e : Entry) : s.Alike (s.retire e) := by
  unfold State.retire
  dsimp only
  split
  · exact ((s.removeEntry_alike e.id).trans (State.enqueue_alike _ _)).trans (State.count_alike _ _)
  · exact s.removeEntry_alike e.id

theorem State.retireIfDue_alike (s : State) (id : LetterId) : s.Alike (s.retireIfDue id) := by
  unfold State.retireIfDue
  split
  · split
    · exact s.retire_alike _
    · exact .refl s
  · exact .refl s

theorem State.expire_alike (s : State) (e : Entry) : s.Alike (s.expire e) := by
  unfold State.expire
  dsimp only
  split
  · exact s.removeEntry_alike e.id
  · exact ((s.removeEntry_alike e.id).trans (State.enqueue_alike _ _)).trans (State.count_alike _ _)

theorem State.applyRead_alike (s : State) (id : LetterId) (f : Identity → Identity) : s.Alike (s.applyRead id f) := by
  unfold State.applyRead
  split
  · exact .refl s
  · have hread := s.modifyEntry_alike id (fun x => { x with identity := f x.identity })
    dsimp only
    split
    · exact hread
    · exact hread.trans (State.rejudge_alike _ id)

theorem State.countRead_alike (s : State) (o : ReadOutcome) : s.Alike (s.countRead o) :=
  { State.Alike.refl s with conditions := s.conditions.setTo_keeps _ _ rfl }

theorem State.closeWindow_alike (s : State) : s.Alike s.closeWindow := by
  unfold State.closeWindow
  split
  · exact .refl s
  · have hread (r : ReadRecord) : s.Alike (s.ownRead r) :=
      ((s.applyRead_alike r.id _).trans (State.enqueue_alike _ _)).trans (State.countRead_alike _ _)
    exact { hread _ with }

/-! ### The photocell -/

theorem State.orphanArrival_alike (s : State) : s.Alike s.orphanArrival := by
  unfold State.orphanArrival
  split
  · split
    · exact { State.Alike.refl s with }
    · exact { State.Alike.refl s with }
  · exact { s.latch_alike .tableFull rfl with }

theorem State.leadingEdge_alike (s : State) : s.Alike s.leadingEdge := by
  refine s.closeWindow_alike.trans ?_
  unfold State.leadingEdge
  dsimp only
  split
  · exact { State.Alike.refl s.closeWindow with }
  · exact State.orphanArrival_alike _

/-- The points of operations are no part of what the laws read (R123). -/
theorem State.giveTrailing_alike (s : State) (id : LetterId) (x : Pos) : s.Alike (s.giveTrailing id x) := by
  have hpocket (k : Fin 4) : (s.giveTrailing id x).pocket k = s.withTrailing id x k := by
    match k with
    | 0 => rfl
    | 1 => rfl
    | 2 => rfl
    | 3 => rfl
  refine { State.Alike.refl s with inputs := fun k _ => ?_, drives := fun k h => ?_ }
  · simp only [State.inputs, hpocket]
    rfl
  · rw [hpocket]
    refine h.of_sameActive (sameActive_of_states ?_) rfl
    rw [State.withTrailing, List.map_map]
    exact List.map_congr_left fun o _ => by
      simp only [Function.comp_apply]
      split <;> rfl

theorem State.fragment_alike (s : State) (e : Entry) : s.Alike (s.fragment e) := by
  unfold State.fragment
  split
  · exact s.removeEntry_alike e.id
  · have hreverted : s.Alike ((s.discardWindowOf e.id).replaceEntry (revertedEntry s.cfg.tol e)) :=
      { State.Alike.refl s with }
    dsimp only
    split
    · exact hreverted.trans (State.expire_alike _ _)
    · exact hreverted

theorem State.setClosePoint_alike (s : State) (id : LetterId) : s.Alike (s.setClosePoint id) := by
  unfold State.setClosePoint
  split
  · rename_i r _
    split
    · have hset (x : Option Pos) : s.Alike { s with scan := some { r with closePoint := x } } :=
        { State.Alike.refl s with }
      dsimp only
      split
      · exact (hset _).trans (State.closeWindow_alike _)
      · exact hset _
    · exact .refl s
  · exact .refl s

theorem State.queueSight_alike (s : State) (e : Entry) (a : Pos) (l : Word) : s.Alike (s.queueSight e a l) := by
  unfold State.queueSight
  split
  · exact (s.enqueue_alike _).trans (State.count_alike _ _)
  · exact .refl s

theorem State.letterPassed_alike (s : State) (e : Entry) (a : Pos) (l : Word) : s.Alike (s.letterPassed e a l) := by
  unfold State.letterPassed
  dsimp only
  have htold := ((s.modifyEntry_alike e.id (passedEntry s.tach.count l s.cfg.lenMax s.cfg.retire)).trans
    (State.queueSight_alike _ e a l)).trans (State.giveTrailing_alike _ e.id s.tach.count)
  refine htold.trans (.trans ?_ ((State.setClosePoint_alike _ e.id).trans (State.retireIfDue_alike _ e.id)))
  split
  · exact .refl _
  · exact State.rejudge_alike _ e.id

theorem State.shortBlockage_alike (s : State) (e : Entry) (a : Pos) (l : Word) : s.Alike (s.shortBlockage e a l) := by
  unfold State.shortBlockage
  split
  · rename_i k _ o _ _
    split
    · exact ((s.releaseClaim_alike e.id k .rejudged).trans (State.cancelOp_alike _ k e.id)).trans
        (State.fragment_alike _ { e with claim := .releasedSelf })
    · exact s.letterPassed_alike e a l
  · exact s.fragment_alike e

theorem State.trailingEdge_alike (s : State) : s.Alike s.trailingEdge := by
  have hended : s.Alike { s with blockage := .none } := { State.Alike.refl s with }
  refine hended.trans ?_
  unfold State.trailingEdge
  dsimp only
  split
  · exact .refl _
  · exact .refl _
  · exact State.giveTrailing_alike _ _ _
  · split
    · exact .refl _
    · split
      · exact State.shortBlockage_alike _ _ _ _
      · exact State.letterPassed_alike _ _ _ _

/-! ### The decision -/

theorem State.newOp_state (s : State) (k : Fin 4) (e : Entry) : (s.newOp k e).state = .armed := by
  unfold State.newOp
  dsimp only
  split <;> rfl

theorem State.createOp_alike (s : State) (k : Fin 4) (e : Entry) : s.Alike (s.createOp k e) :=
  s.setOps_alike k _ (sameActive_placeOp _ _ (inactive_of_state (.inl (s.newOp_state k e))))

theorem State.decideEntry_alike (s : State) (e : Entry) : s.Alike (s.decideEntry e) := by
  have hclaim (t : State) (k : Fin 4) : t.Alike (t.claimPocket k e) :=
    (((t.modifyEntry_alike e.id (fun x => { x with claim := .own k })).trans
      (State.enqueue_alike _ (.claim e.id k))).trans (State.createOp_alike _ k e)).trans
      (State.count_alike _ fun c => { c with claims := satInc c.claims })
  refine (s.modifyEntry_alike e.id (fun x => { x with decided := true, decisionPoint := none })).trans ?_
  unfold State.decideEntry
  dsimp only
  split
  · split
    · exact hclaim _ _
    · exact .refl _
  · exact .refl _

/-! ### Received letter frames -/

theorem State.claimAgainstOwn_alike (s : State) (id : LetterId) (station : Station) (pocket : Byte) :
    s.Alike (s.claimAgainstOwn id station pocket) := by
  unfold State.claimAgainstOwn
  split
  · exact .refl s
  · rename_i k o _
    split
    · exact ((s.cancelOp_alike k id).trans
        (State.modifyEntry_alike _ id (fun x => { x with claim := .peer station pocket }))).trans
        (State.withdrawClaim_alike _ id)
    · refine .trans (s.setOps_alike k _ (sameActive_of_states ?_)) (State.latch_alike _ .divertAnomaly rfl)
      exact map_state_modifyFirst _ _ _ fun _ => rfl

theorem State.takeClaim_alike (s : State) (h : Header) (id : LetterId) (pocket : Byte) :
    s.Alike (s.takeClaim h id pocket) := by
  unfold State.takeClaim
  split
  · split
    · exact .refl s
    · split
      · exact s.modifyEntry_alike id _
      · exact s.claimAgainstOwn_alike id _ _
      · exact .refl s
      · exact .refl s
  · exact .refl s

theorem State.takeRelease_alike (s : State) (h : Header) (id : LetterId) (pocket : Byte) :
    s.Alike (s.takeRelease h id pocket) := by
  unfold State.takeRelease
  split
  · split
    · exact .refl s
    · split
      · exact s.modifyEntry_alike id _
      · exact .refl s
  · exact .refl s

theorem State.takeDiverted_alike (s : State) (h : Header) (id : LetterId) : s.Alike (s.takeDiverted h id) := by
  unfold State.takeDiverted
  split
  · split
    · exact .refl s
    · split
      · exact (s.withdrawClaim_alike id).trans (State.removeEntry_alike _ id)
      · split
        · exact ((s.cancelOp_alike _ id).trans (State.withdrawClaim_alike _ id)).trans (State.removeEntry_alike _ id)
        · exact (s.modifyEntry_alike id (fun x => { x with divertedHeard := true })).trans (State.latch_alike _ _ rfl)
  · exact .refl s

theorem State.takeSight_alike (s : State) (h : Header) (id : LetterId) (age length : Word) :
    s.Alike (s.takeSight h id age length) := by
  unfold State.takeSight
  split
  · dsimp only
    split
    · exact .refl s
    · split
      · exact s.count_alike _
      · split
        · exact { State.Alike.refl s with }
        · exact s.latch_alike _ rfl
  · exact .refl s

theorem State.takeRead_alike (s : State) (h : Header) (id : LetterId) (outcome quality : Byte) (code : Option Code) :
    s.Alike (s.takeRead h id outcome quality code) := by
  unfold State.takeRead
  split
  · split
    · exact s.applyRead_alike id _
    · exact .refl s
  · exact .refl s

theorem State.takeLost_alike (s : State) (h : Header) (id : LetterId) : s.Alike (s.takeLost h id) := by
  unfold State.takeLost
  split
  · split
    · exact .refl s
    · split
      · exact s.removeEntry_alike id
      · exact s.modifyEntry_alike id _
  · exact .refl s

end Sys2Proof.Machine
end

section
/-! PROOF. What keeps the laws of the drives, of the conditions and of the pocket states without leaving all they read as it
is: a miss, a pocket's inputs, the passing of time, and the changes of the run state. -/

namespace Sys2Proof.Machine

/-! ### Pockets -/

theorem State.countMiss_pocketLawsKept (s : State) (k : Fin 4) : s.PocketLawsKept (s.countMiss k) :=
  (s.setPocket_alikeBut k (s.pocket k).missCounted fun h => h).formPocket

/-- An operation that is no longer active misses (R134 to R136). -/
theorem State.miss_pocketLawsKept (s : State) (k : Fin 4) (o : GateOp) (ho : o.active = false) :
    s.PocketLawsKept (s.miss k o) := by
  unfold State.miss
  split
  · exact ((s.dropOp_alike k o ho).trans (State.removeEntry_alike _ o.id)).pocketLawsKept
  · exact ((s.releaseClaim_alike o.id k .miss).pocketLawsKept.trans (State.countMiss_pocketLawsKept _ k)).trans
      ((State.dropOp_alike _ k o ho).trans (State.retireIfDue_alike _ o.id)).pocketLawsKept

theorem State.inputsTaken_iff (s : State) (k : Fin 4) :
    s.inputsTaken k = true ↔ s.joined = true ∧ (s.pocket k).state ≠ .off := by
  simp [State.inputsTaken]

/-- The input of a pocket that is OFF, or of a station that takes none, acts on nothing but the pin (R115). -/
theorem State.AlikeBut.of_input_not_taken {s t : State} {k : Fin 4} (w : s.AlikeBut (· = k) t)
    (hout : ¬s.inputsTaken k = true) (hstate : (t.pocket k).state = (s.pocket k).state) : s.PocketLawsKept t where
  drives h j := w.drives j (h j)
  signals hc hp := by
    refine ⟨hc.of_alike w.runState w.conditions, (pocketLaw_iff t).mpr fun hj => ?_⟩
    rw [State.joined_of_runState w.runState] at hj
    obtain ⟨hformed, hfault, hfull⟩ := (pocketLaw_iff s).mp hp hj
    obtain ⟨-, htied⟩ := w.conditions ((conditionLaw_iff s).mp hc).1
    have hoff : (s.pocket k).state = .off := by
      by_contra hon
      exact hout ((s.inputsTaken_iff k).mpr ⟨hj, hon⟩)
    have hstates (j : Fin 4) : (t.pocket j).state = (s.pocket j).state := by
      by_cases h : j = k
      · exact h ▸ hstate
      · exact congrArg PocketInputs.state (w.inputs j h)
    simp only [hstates, htied .pocketFault rfl, htied .pocketFull rfl]
    refine ⟨fun j => ?_, hfault, hfull⟩
    by_cases h : j = k
    · exact h ▸ (hformed k).of_off hoff w.config (hstate.trans hoff)
    · exact (hformed j).of_inputs w.config (w.inputs j h)

/-- The level of one pocket's input changes. -/
theorem State.pfull_alikeBut (s : State) (k : Fin 4) (b : Bool) :
    s.AlikeBut (· = k) { s with pins := { s.pins with pfull := s.pins.pfull.set k b } } :=
  { (State.Alike.refl s).but (· = k) with
    inputs := fun j h => by simp [State.inputs, State.pocket, h] }

theorem State.pswap_alikeBut (s : State) (k : Fin 4) (b : Bool) :
    s.AlikeBut (· = k) { s with pins := { s.pins with pswap := s.pins.pswap.set k b } } :=
  { (State.Alike.refl s).but (· = k) with
    inputs := fun j h => by simp [State.inputs, State.pocket, h] }

/-! ### Time -/

/-- A microsecond runs the timers of a drive down and leaves it in its phase. -/
theorem State.tick_alike (s : State) : s.Alike s.tick := by
  unfold State.tick
  split
  · exact .refl s
  · refine { State.Alike.refl s with inputs := fun k _ => ?_, drives := fun k h => ?_ }
    · simp [State.inputs, State.pocket]
    · simpa [State.pocket] using h.tick

/-! ### The run states -/

/-- From a run state in which the inputs are taken the run state turns, and JAMMED with it (R179). -/
theorem State.turned_pocketLawsKept (s : State) (r : RunState) (c : Conditions) (hj : s.joined = true)
    (hlawful : s.conditions.Lawful → c.Lawful)
    (hjammed : ConditionLaw s → (c.isActive .jammed = true ↔ r = .jammed))
    (hpockets : ∀ d, d ≠ .jammed → c.isActive d = s.conditions.isActive d) :
    s.PocketLawsKept { s with runState := r, conditions := c } where
  drives h := h
  signals hc hp := by
    obtain ⟨hl, -⟩ := (conditionLaw_iff s).mp hc
    obtain ⟨hformed, hfault, hfull⟩ := (pocketLaw_iff s).mp hp hj
    refine ⟨(conditionLaw_iff _).mpr ⟨hlawful hl, hjammed hc⟩, (pocketLaw_iff _).mpr fun _ => ⟨hformed, ?_, ?_⟩⟩
    · rwa [hpockets .pocketFault (by decide)]
    · rwa [hpockets .pocketFull (by decide)]

theorem State.setJammed_pocketLawsKept (s : State) (r : RunState) (v : Bool) (hj : s.joined = true)
    (hr : r = .running ∧ v = false ∨ r = .jammed ∧ v = true) :
    s.PocketLawsKept { s with runState := r, conditions := s.conditions.setTo .jammed v } := by
  refine s.turned_pocketLawsKept r _ hj (fun h => h.setTo _ _) (fun _ => ?_) fun d hd => ?_
  · rw [Conditions.isActive_setTo, if_pos rfl]
    rcases hr with ⟨rfl, rfl⟩ | ⟨rfl, rfl⟩ <;> simp
  · rw [Conditions.isActive_setTo, if_neg hd]

theorem Pocket.dropOps_driveAgrees (p : Pocket) : p.dropOps.DriveAgrees := p.dropOps.driveAgrees_of_empty rfl rfl

theorem State.emptied_alike (s : State) : s.Alike s.emptied := by
  have hpocket (k : Fin 4) : s.emptied.pocket k = (s.pocket k).dropOps := get_map Pocket.dropOps s.pockets k
  refine { State.Alike.refl s with inputs := fun k _ => ?_, drives := fun k _ => ?_ }
  · simp only [State.inputs, hpocket]
    rfl
  · exact hpocket k ▸ (s.pocket k).dropOps_driveAgrees

theorem State.enterJammed_pocketLawsKept (s : State) (jam : Option JamReason) (hr : s.runState = .running) :
    s.PocketLawsKept (s.enterJammed jam) := by
  have hoffer : s.emptied.Alike (s.emptied.offerJam jam) := by
    cases jam with
    | none => exact .refl _
    | some r => exact State.enqueue_alike _ _
  have halike := s.emptied_alike.trans hoffer
  rw [State.enterJammed_eq]
  refine halike.pocketLawsKept.trans (State.setJammed_pocketLawsKept _ .jammed true ?_ (.inr ⟨rfl, rfl⟩))
  exact State.joined_of_running (halike.runState.trans hr)

theorem State.leaveJammed_pocketLawsKept (s : State) (hr : s.runState = .jammed) : s.PocketLawsKept s.leaveJammed :=
  s.setJammed_pocketLawsKept .running false (State.joined_of_jammed hr) (.inl ⟨rfl, rfl⟩)

theorem ConditionLaw.not_jammed {s : State} (h : ConditionLaw s) (hr : s.runState ≠ .jammed) :
    s.conditions.isActive .jammed = false :=
  Bool.eq_false_iff.mpr (mt ((conditionLaw_iff s).mp h).2.mp hr)

theorem State.joinEnded_pocketLawsKept (s : State) : s.PocketLawsKept s.joinEnded := by
  unfold State.joinEnded
  split
  · rename_i hr
    refine s.turned_pocketLawsKept .running s.conditions (s.joined_iff.mpr (.inl hr)) id (fun h => ?_)
      fun _ _ => rfl
    rw [h.not_jammed (by rw [hr]; nofun)]
    exact iff_of_false nofun nofun
  · exact .refl s

/-- Outside JOINING, RUNNING and JAMMED the laws ask of the pockets only that the drives agree (R115). -/
theorem State.outside_pocketLawsKept {s t : State} (hj : t.joined = false)
    (hdrives : ∀ k, (s.pocket k).DriveAgrees → (t.pocket k).DriveAgrees)
    (hc : ConditionLaw s → t.conditions.Lawful ∧ t.conditions.isActive .jammed = false) : s.PocketLawsKept t where
  drives h k := hdrives k (h k)
  signals hcs _ := by
    obtain ⟨hlawful, hjammed⟩ := hc hcs
    refine ⟨(conditionLaw_iff t).mpr ⟨hlawful, iff_of_false (by simp [hjammed]) fun hr => ?_⟩, fun h => ?_⟩
    · simp [State.joined, hr] at hj
    · simp [hj] at h

/-! ### Resets and loads -/

/-- The conditions after the entry into RESET and after a retain reset (R163, R167). -/
def Conditions.kept (x : Conditions) : Conditions :=
  { active := x.active &&& keptBits, deltas := 0, markedLatched := 0, markedDeltas := 0 }

theorem Conditions.Lawful.kept {x : Conditions} (h : x.Lawful) : x.kept.Lawful :=
  ⟨and_clear _ h.1, BitVec.zero_and, BitVec.zero_and⟩

theorem Conditions.isActive_kept (x : Conditions) (c : Condition) :
    x.kept.isActive c = if c = .configClamped ∨ c = .pocketDisabled then x.isActive c else false := by
  have hkept : keptBits.getLsbD (conditionRank c - 1) = decide (c = .configClamped ∨ c = .pocketDisabled) := by
    rw [keptBits, BitVec.getLsbD_or, conditionBit_getLsbD_rank, conditionBit_getLsbD_rank, Bool.decide_or]
  simp only [Conditions.isActive, Conditions.kept, BitVec.getLsbD_and, hkept]
  split <;> simp [*]

/-- In RESET, with the work abandoned and the conditions cleared (R163). -/
theorem State.resetEntered_pocketLawsKept (s : State) (pins : Pins) (config : Option StationConfig) (lost halted : Bool) :
    s.PocketLawsKept
      { s.abandonWork with
        runState := .reset, pins := pins, config := config, powerLost := lost, haltedAtEntry := halted } := by
  refine State.outside_pocketLawsKept rfl (fun k _ => ?_) fun hc => ⟨((conditionLaw_iff s).mp hc).1.kept, ?_⟩
  · have hpocket : s.abandonWork.pocket k = (s.pocket k).dropOps := get_map Pocket.dropOps s.pockets k
    exact hpocket ▸ (s.pocket k).dropOps_driveAgrees
  · exact s.conditions.isActive_kept .jammed

theorem State.fullInit_pocketLawsKept (s : State) (straps : Straps) : s.PocketLawsKept (s.fullInit straps) :=
  ⟨fun _ => State.reset_driveLaw, fun _ _ => ⟨State.reset_conditionLaw, nofun⟩⟩

theorem State.halt_pocketLawsKept (s : State) (hr : s.runState = .loading) : s.PocketLawsKept s.halt :=
  State.outside_pocketLawsKept rfl (fun _ h => h) fun hc =>
    ⟨((conditionLaw_iff s).mp hc).1, hc.not_jammed (by rw [hr]; nofun)⟩

theorem State.formAllPockets_conditions (s : State) :
    s.formAllPockets.conditions = pocketConditions s.formAllPockets.pockets s.conditions := rfl

/-- With every state formed anew, the laws ask nothing of the states before (R115). -/
theorem State.formAllPockets_signals (s : State) (h : ConditionLaw s) :
    ConditionLaw s.formAllPockets ∧ PocketLaw s.formAllPockets := by
  obtain ⟨hlawful, hjammed⟩ := (conditionLaw_iff s).mp h
  refine ⟨(conditionLaw_iff _).mpr ⟨hlawful.pocketConditions _, ?_⟩, (pocketLaw_iff _).mpr fun _ => ⟨fun k => ?_, ?_, ?_⟩⟩
  · rw [State.formAllPockets_conditions, isActive_pocketConditions_other _ _ .jammed (by decide) (by decide)]
    exact hjammed
  · unfold State.Formed
    rw [State.formAllPockets_pocket]
    rfl
  · exact isActive_pocketConditions_fault _ _
  · exact isActive_pocketConditions_full _ _

theorem State.enterJoining_eq (s : State) :
    s.enterJoining = (s.joining.enqueue (.join s.cfg.pocketCount s.cfg.crc)).formAllPockets := rfl

theorem State.enterJoining_pocket (s : State) (k : Fin 4) :
    (s.enterJoining.pocket k) =
      (s.pocket k).formed (s.rule k) (s.pins.pswap.get k) (s.pins.pfull.get k) := by
  rw [State.enterJoining_eq, State.formAllPockets_pocket]
  rfl

/-- The entry into JOINING from outside JAMMED (R175). -/
theorem State.enterJoining_pocketLawsKept {s t : State}
    (hdrives : ∀ k, (s.pocket k).DriveAgrees → (t.pocket k).DriveAgrees)
    (hc : ConditionLaw s → t.conditions.Lawful ∧ t.conditions.isActive .jammed = false) :
    s.PocketLawsKept t.enterJoining where
  drives h k := by
    rw [State.enterJoining_pocket]
    exact hdrives k (h k)
  signals hcs _ := by
    obtain ⟨hlawful, hjammed⟩ := hc hcs
    have hjoining : ConditionLaw t.joining :=
      (conditionLaw_iff _).mpr ⟨hlawful, iff_of_false (Bool.eq_false_iff.mp hjammed) nofun⟩
    have hqueued := t.joining.enqueue_alike (.join t.cfg.pocketCount t.cfg.crc)
    rw [State.enterJoining_eq]
    exact State.formAllPockets_signals _ (hjoining.of_alike hqueued.runState hqueued.conditions)

/-- A pocket after a retain reset, before its state is formed anew (R167). -/
def Pocket.retained (p : Pocket) : Pocket := { Pocket.atReset with state := p.state, tally := p.tally }

theorem State.retainInit_pocket (s : State) (k : Fin 4) : s.retainInit.pocket k = (s.pocket k).retained :=
  get_map Pocket.retained s.pockets k

theorem State.retainReset_pocketLawsKept (s : State) : s.PocketLawsKept s.retainInit.enterJoining := by
  refine State.enterJoining_pocketLawsKept (fun k _ => ?_) fun hc =>
    ⟨((conditionLaw_iff s).mp hc).1.kept, s.conditions.isActive_kept .jammed⟩
  rw [State.retainInit_pocket]
  exact Pocket.driveAgrees_of_empty _ rfl rfl

theorem State.completeLoad_pocketLawsKept (s : State) (image : List Byte) (crc : Word) (hr : s.runState = .loading) :
    s.PocketLawsKept (s.completeLoad image crc) := by
  rw [State.completeLoad_eq]
  refine State.enterJoining_pocketLawsKept (fun _ h => h) fun hc => ?_
  have hclamped := (s.conditions.setTo_keeps .configClamped (imageClamped image) rfl).trans
    (Conditions.setTo_keeps _ .pocketDisabled (imageDisables image) rfl)
  obtain ⟨hlawful, htied⟩ := hclamped ((conditionLaw_iff s).mp hc).1
  exact ⟨hlawful, (htied .jammed rfl).trans (hc.not_jammed (by rw [hr]; nofun))⟩

end Sys2Proof.Machine
end

section
/-! PROOF. Every step keeps the laws of the drives, of the conditions and of the pocket states, row by row. -/

namespace Sys2Proof.Machine

/-- Whatever the command answers, it leads from s to a state that keeps the laws. -/
def State.KeepsPocketLaws (s : State) (o : Host.Outcome State Fault Refusal) : Prop :=
  ∀ t, o = .next t → s.PocketLawsKept t

theorem State.KeepsPocketLaws.next {s t : State} (h : s.PocketLawsKept t) : s.KeepsPocketLaws (.next t) := fun _ hu => by
  cases hu
  exact h

theorem State.KeepsPocketLaws.alike {s t : State} (h : s.Alike t) : s.KeepsPocketLaws (.next t) := .next h.pocketLawsKept

theorem State.KeepsPocketLaws.same (s : State) : s.KeepsPocketLaws (.next s) := .next (.refl s)

/-- A command that acts where its event can happen, and otherwise leaves the state as it is (log 4). -/
theorem State.KeepsPocketLaws.guarded {s t : State} {c : Prop} [Decidable c] (h : c → s.PocketLawsKept t) :
    s.KeepsPocketLaws (if c then .next t else .next s) := by
  split
  · rename_i hc
    exact .next (h hc)
  · exact .same s

/-- The usual case: what the event changes, the laws do not read. -/
theorem State.KeepsPocketLaws.guardedAlike {s t : State} {c : Prop} [Decidable c] (h : s.Alike t) :
    s.KeepsPocketLaws (if c then .next t else .next s) :=
  .guarded fun _ => h.pocketLawsKept

/-! ### The count, the tach, the video and the photocell -/

theorem execTachEdge_keepsPocketLaws (s : State) : s.KeepsPocketLaws (execTachEdge s) := by
  unfold execTachEdge
  split
  · exact .same s
  · exact .alike { State.Alike.refl s with }

theorem execTachStall_keepsPocketLaws (s : State) : s.KeepsPocketLaws (execTachStall s) :=
  .guardedAlike { State.Alike.refl s with }

theorem execJamPoint_keepsPocketLaws (s : State) : s.KeepsPocketLaws (execJamPoint s) :=
  .guarded fun h => s.enterJammed_pocketLawsKept _ h.1

theorem execExpiryPoint_keepsPocketLaws (s : State) : s.KeepsPocketLaws (execExpiryPoint s) := by
  unfold execExpiryPoint
  split
  · exact .guardedAlike (s.expire_alike _)
  · exact .same s

theorem execRetirementPoint_keepsPocketLaws (s : State) : s.KeepsPocketLaws (execRetirementPoint s) := by
  unfold execRetirementPoint
  split
  · exact .guardedAlike (s.retire_alike _)
  · exact .same s

theorem execScanClosePoint_keepsPocketLaws (s : State) : s.KeepsPocketLaws (execScanClosePoint s) := by
  unfold execScanClosePoint
  split
  · exact .guardedAlike s.closeWindow_alike
  · exact .same s

theorem execDecisionPoint_keepsPocketLaws (s : State) : s.KeepsPocketLaws (execDecisionPoint s) := by
  unfold execDecisionPoint
  split
  · exact .guardedAlike (s.decideEntry_alike _)
  · exact .same s

theorem State.frontEnd_alike (s : State) (f : FrontEnd) : s.Alike { s with frontEnd := f } := { State.Alike.refl s with }

theorem execVideoSample_keepsPocketLaws (high : Bool) (s : State) : s.KeepsPocketLaws (execVideoSample high s) :=
  .guardedAlike (s.frontEnd_alike _)

theorem execNoiseFilterAccept_keepsPocketLaws (high : Bool) (s : State) :
    s.KeepsPocketLaws (execNoiseFilterAccept high s) :=
  .guardedAlike (s.frontEnd_alike _)

theorem execQuietSeen_keepsPocketLaws (high : Bool) (s : State) : s.KeepsPocketLaws (execQuietSeen high s) :=
  .guardedAlike (s.frontEnd_alike _)

theorem execRunEndByQuiet_keepsPocketLaws (high : Bool) (s : State) : s.KeepsPocketLaws (execRunEndByQuiet high s) := by
  unfold execRunEndByQuiet
  split
  · split
    · exact .alike { State.Alike.refl s with }
    · exact .same s
  · exact .same s

theorem execSweepEdge_keepsPocketLaws (s : State) : s.KeepsPocketLaws (execSweepEdge s) := by
  unfold execSweepEdge
  split
  · exact .same s
  · exact .alike { State.Alike.refl s with }

theorem execPcellLeadingEdge_keepsPocketLaws (s : State) : s.KeepsPocketLaws (execPcellLeadingEdge s) := by
  have hlevel : s.Alike { s with pins := { s.pins with pcellBlocked := true } } := { State.Alike.refl s with }
  unfold execPcellLeadingEdge
  dsimp only
  split
  · exact .same s
  · split
    · exact .alike (hlevel.trans (State.leadingEdge_alike _))
    · exact .alike hlevel

theorem execPcellTrailingEdge_keepsPocketLaws (s : State) : s.KeepsPocketLaws (execPcellTrailingEdge s) := by
  have hlevel : s.Alike { s with pins := { s.pins with pcellBlocked := false } } := { State.Alike.refl s with }
  unfold execPcellTrailingEdge
  dsimp only
  split
  · split
    · exact .alike (hlevel.trans (State.trailingEdge_alike _))
    · exact .alike hlevel
  · exact .same s

/-! ### The gates -/

theorem execFirePoint_keepsPocketLaws (k : Fin 4) (s : State) : s.KeepsPocketLaws (execFirePoint k s) := by
  unfold execFirePoint
  dsimp only
  split
  · rename_i hfires
    exact .alike (s.setPocket_alike k _ rfl rfl rfl fun h => h.fired s.tach.count s.cfg.pullIn hfires)
  · exact .same s

theorem execPullInExpiry_keepsPocketLaws (k : Fin 4) (s : State) : s.KeepsPocketLaws (execPullInExpiry k s) := by
  unfold execPullInExpiry
  dsimp only
  split
  · rename_i t ht
    exact .guardedAlike (s.setPocket_alike k _ rfl rfl rfl fun h => h.pulledIn t s.cfg.holdOn ht)
  · exact .same s

theorem execChopPartExpiry_keepsPocketLaws (k : Fin 4) (s : State) : s.KeepsPocketLaws (execChopPartExpiry k s) := by
  unfold execChopPartExpiry
  dsimp only
  split
  · rename_i on left hd
    refine .guardedAlike
      (s.setPocket_alike k _ rfl rfl rfl fun h => h.of_phase _ (fun t ht => ?_) (fun b t _ => ?_) fun hoff => ?_)
    · simp [hd] at ht
    · exact ⟨_, _, rfl⟩
    · simp [hd] at hoff
  · exact .same s

theorem execReleasePoint_keepsPocketLaws (k : Fin 4) (s : State) : s.KeepsPocketLaws (execReleasePoint k s) := by
  unfold execReleasePoint
  dsimp only
  split
  · exact .same s
  · rename_i o _
    have hreleased := s.setPocket_alike k
      { s.pocket k with
        ops := releasedOps s.tach.count o (s.pocket k).ops,
        drive := driveAfter (releasedOps s.tach.count o (s.pocket k).ops) (s.pocket k).drive }
      rfl rfl rfl fun h => h.driveAfter _ fun x hx => mem_of_mem_releasedOps _ o x _ hx
    split
    · exact .next (hreleased.pocketLawsKept.trans (State.miss_pocketLawsKept _ k _ rfl))
    · exact .alike hreleased

theorem execConfirmClose_keepsPocketLaws (k : Fin 4) (s : State) : s.KeepsPocketLaws (execConfirmClose k s) := by
  unfold execConfirmClose
  split
  · rename_i o ho
    have htrailing := ((opMisses_iff _ _).mp (List.find?_some ho)).1
    exact .next (s.miss_pocketLawsKept k o (inactive_of_state (.inr htrailing)))
  · exact .same s

/-! ### The inputs of a pocket -/

theorem State.confirm_alike (s : State) (k : Fin 4) (o : GateOp) (h : (s.pocket k).ops.find? GateOp.eligible = some o) :
    s.Alike (s.confirm k o) := by
  have hconfirmed := s.setPocket_alike k { s.pocket k with ops := confirmedOps o (s.pocket k).ops, missCount := 0 }
    rfl rfl rfl fun hp => hp.of_sameActive (sameActive_confirmedOps o _ h) rfl
  exact ((hconfirmed.trans (State.enqueue_alike _ _)).trans (State.count_alike _ _)).trans
    (State.removeEntry_alike _ o.id)

theorem execPentryEdge_keepsPocketLaws (k : Fin 4) (s : State) : s.KeepsPocketLaws (execPentryEdge k s) := by
  have hcounted := (s.setPocket_alikeBut k { s.pocket k with tally := satInc (s.pocket k).tally } fun h => h).formPocket
  unfold execPentryEdge
  dsimp only
  split
  · split
    · rename_i o ho
      refine .next (hcounted.trans (State.confirm_alike _ k o ?_).pocketLawsKept)
      rw [State.formPocket_pocket, if_pos rfl]
      show ((s.setPocket k _).pocket k).ops.find? GateOp.eligible = some o
      rw [State.setPocket_pocket, if_pos rfl]
      exact ho
    · exact .next (hcounted.trans (State.latch_alike _ _ rfl).pocketLawsKept)
  · exact .same s

theorem execPfullChange_keepsPocketLaws (k : Fin 4) (active : Bool) (s : State) :
    s.KeepsPocketLaws (execPfullChange k active s) := by
  have hlevel := s.pfull_alikeBut k active
  unfold execPfullChange
  dsimp only
  split
  · exact .same s
  · split
    · exact .next hlevel.formPocket
    · rename_i hout
      exact .next (hlevel.of_input_not_taken hout rfl)

theorem execPswapActive_keepsPocketLaws (k : Fin 4) (s : State) : s.KeepsPocketLaws (execPswapActive k s) := by
  have hlevel := s.pswap_alikeBut k true
  unfold execPswapActive
  dsimp only
  split
  · exact .same s
  · split
    · exact .next (hlevel.formPocket.trans (State.swapCancels_alike _ k _).pocketLawsKept)
    · rename_i hout
      exact .next (hlevel.of_input_not_taken hout rfl)

theorem execPswapInactive_keepsPocketLaws (k : Fin 4) (s : State) : s.KeepsPocketLaws (execPswapInactive k s) := by
  have hlevel := s.pswap_alikeBut k false
  have hemptied := State.setPocket_alikeBut { s with pins := { s.pins with pswap := s.pins.pswap.set k false } } k
    { s.pocket k with tally := 0, missCount := 0, fault := false } fun h => h
  unfold execPswapInactive
  dsimp only
  split
  · split
    · exact .next (hlevel.trans hemptied).formPocket
    · rename_i hout
      exact .next (hlevel.of_input_not_taken hout rfl)
  · exact .same s

/-! ### The line's events -/

theorem State.lineOnly_alike (s : State) (l : Line) : s.Alike { s with line := l } :=
  s.line_alike l s.conditions (.refl _)

theorem execBusFree_keepsPocketLaws (s : State) : s.KeepsPocketLaws (execBusFree s) := by
  unfold execBusFree
  dsimp only
  split
  · exact .alike (s.line_alike _ _ (startAttempt_keeps s (_, s.conditions)))
  · exact .same s

theorem execStartOfFrame_keepsPocketLaws (highCells : Nat) (s : State) :
    s.KeepsPocketLaws (execStartOfFrame highCells s) :=
  .guardedAlike (s.lineOnly_alike _)

theorem State.loseArbitration_alike (s : State) : s.Alike s.loseArbitration := by
  unfold State.loseArbitration
  split
  · exact .refl s
  · split
    · exact s.line_alike _ _ (countDiscard_keeps (_, s.conditions))
    · exact s.lineOnly_alike _

theorem State.failAttempt_pocketLawsKept (s : State) : s.PocketLawsKept s.failAttempt := by
  have hisolated := s.conditions.setTo_keeps .isolated true rfl
  unfold State.failAttempt
  split
  · exact .refl s
  · split
    · exact (s.lineOnly_alike _).pocketLawsKept
    · split
      · have hdiscarded (l : Line) := (s.line_alike l _ (hisolated.trans
          (countDiscard_keeps (dropInFlight s.line, s.conditions.setTo .isolated true)))).pocketLawsKept
        dsimp only
        split
        · exact (hdiscarded _).trans (State.joinEnded_pocketLawsKept _)
        · exact hdiscarded _
      · split
        · exact (s.line_alike _ _ (countDiscard_keeps (_, s.conditions))).pocketLawsKept
        · exact (s.lineOnly_alike _).pocketLawsKept

theorem State.ackAttempt_pocketLawsKept (s : State) : s.PocketLawsKept s.ackAttempt := by
  have hisolated := s.conditions.setTo_keeps .isolated false rfl
  have hdropped := s.line_alike (dropInFlight s.line) _ hisolated
  have hcleared := s.line_alike (dropInFlight s.line) _ (hisolated.trans (Conditions.clearReported_keeps _))
  unfold State.ackAttempt
  dsimp only
  split
  · exact hdropped.pocketLawsKept
  · split
    · split
      · exact (hcleared.trans (State.enqueue_alike _ _)).pocketLawsKept
      · exact hcleared.pocketLawsKept
    · split
      · exact hdropped.pocketLawsKept.trans (State.joinEnded_pocketLawsKept _)
      · exact hdropped.pocketLawsKept

theorem execArbitrationLost_keepsPocketLaws (s : State) : s.KeepsPocketLaws (execArbitrationLost s) :=
  .guardedAlike ((s.lineOnly_alike _).trans (State.loseArbitration_alike _))

theorem execBitError_keepsPocketLaws (s : State) : s.KeepsPocketLaws (execBitError s) :=
  .guarded fun _ => (s.lineOnly_alike _).pocketLawsKept.trans (State.failAttempt_pocketLawsKept _)

theorem execAttemptEnd_keepsPocketLaws (acked : Bool) (s : State) : s.KeepsPocketLaws (execAttemptEnd acked s) := by
  unfold execAttemptEnd
  dsimp only
  split
  · split
    · exact .next ((s.lineOnly_alike _).pocketLawsKept.trans (State.ackAttempt_pocketLawsKept _))
    · exact .next ((s.lineOnly_alike _).pocketLawsKept.trans (State.failAttempt_pocketLawsKept _))
  · exact .same s

theorem execSightStalePoint_keepsPocketLaws (s : State) : s.KeepsPocketLaws (execSightStalePoint s) := by
  unfold execSightStalePoint
  split
  · exact .same s
  · dsimp only
    split
    · exact .alike (s.lineOnly_alike _)
    · exact .alike (s.line_alike _ _ (countDiscard_keeps (_, s.conditions)))

theorem execBrokenFrame_keepsPocketLaws (cells : List Bool) (s : State) : s.KeepsPocketLaws (execBrokenFrame cells s) := by
  unfold execBrokenFrame
  split
  · exact .guardedAlike (s.lineOnly_alike _)
  · exact .same s

/-! ### Received frames -/

/-- DUP_STATION and POSITION_CLASH are tied to nothing else (R161). -/
theorem State.testSender_alike (s : State) (h : Header) : s.Alike (s.testSender h) := by
  have hstation : s.conditions.Keeps (if s.ownNumber h then s.conditions.latch .dupStation else s.conditions) := by
    split
    · exact s.conditions.latch_keeps .dupStation rfl
    · exact .refl _
  refine s.line_alike s.line _ ?_
  split
  · exact hstation.trans (Conditions.latch_keeps _ .positionClash rfl)
  · exact hstation

/-- What the acknowledge and the tests of R161 leave, the owning block takes. -/
theorem State.receiveOrHandOn_pocketLawsKept (s : State) (h : Header) (owner : State → State)
    (howner : ∀ t : State, t.PocketLawsKept (owner t)) : s.PocketLawsKept (s.receiveOrHandOn h owner) := by
  have hacknowledged : s.Alike s.acknowledge := s.lineOnly_alike _
  rcases receiveOrHandOn_cases s h owner with ⟨heq, -⟩ | ⟨-, heq, -⟩ | ⟨t, ⟨-, -, hfrom⟩, heq⟩
  · rw [heq]
    exact .refl s
  · rw [heq]
    exact (hacknowledged.trans (State.testSender_alike _ h)).pocketLawsKept
  · rw [heq]
    rcases hfrom with ⟨-, rfl⟩ | ⟨-, rfl⟩
    · exact hacknowledged.pocketLawsKept.trans (howner _)
    · exact howner _

theorem State.receive_pocketLawsKept (s : State) (h : Header) (owner : State → State)
    (howner : ∀ t : State, t.PocketLawsKept (owner t)) : s.PocketLawsKept (s.receive h owner) := by
  have hacknowledged : s.Alike s.acknowledge := s.lineOnly_alike _
  have htested := (hacknowledged.trans (s.acknowledge.testSender_alike h)).pocketLawsKept
  unfold State.receive
  split
  · dsimp only
    split
    · exact htested
    · exact htested.trans (howner _)
  · exact .refl s

theorem State.takeJam_pocketLawsKept (s : State) : s.PocketLawsKept s.takeJam := by
  unfold State.takeJam
  split
  · rename_i hr
    exact s.enterJammed_pocketLawsKept _ hr
  · exact .refl s

theorem State.takeClear_pocketLawsKept (s : State) : s.PocketLawsKept s.takeClear := by
  unfold State.takeClear
  split
  · rename_i hr
    split
    · exact (s.enqueue_alike _).pocketLawsKept
    · split
      · exact s.leaveJammed_pocketLawsKept hr
      · exact (s.enqueue_alike _).pocketLawsKept
  · exact .refl s

theorem State.takePoll_alike (s : State) (target : Byte) : s.Alike (s.takePoll target) := by
  unfold State.takePoll
  split
  · exact s.enqueue_alike _
  · exact .refl s

/-! ### STOP, RESUME, resets and the configuration read -/

theorem execStopPress_keepsPocketLaws (s : State) : s.KeepsPocketLaws (execStopPress s) := by
  have hlevel (b : Bool) : s.Alike { s with pins := { s.pins with stopHigh := false }, stopReleased := b } :=
    { State.Alike.refl s with }
  unfold execStopPress
  dsimp only
  split
  · split
    · split
      · rename_i hr
        exact .next ((hlevel false).pocketLawsKept.trans (State.enterJammed_pocketLawsKept _ _ hr))
      · exact .alike (hlevel false)
    · exact .alike (hlevel s.stopReleased)
  · exact .same s

theorem execStopRelease_keepsPocketLaws (s : State) : s.KeepsPocketLaws (execStopRelease s) := by
  unfold execStopRelease
  dsimp only
  split
  · exact .same s
  · split
    · exact .alike { State.Alike.refl s with }
    · exact .alike { State.Alike.refl s with }

theorem execResumePress_keepsPocketLaws (s : State) : s.KeepsPocketLaws (execResumePress s) :=
  .guarded fun h => (s.enqueue_alike .clear).pocketLawsKept.trans (State.leaveJammed_pocketLawsKept _ h.1)

theorem execResetEntry_keepsPocketLaws (signal : ResetSignal) (s : State) :
    s.KeepsPocketLaws (execResetEntry signal s) := by
  unfold execResetEntry
  cases signal
  · exact .guarded fun _ => s.resetEntered_pocketLawsKept _ _ _ _
  · exact .guarded fun _ => s.resetEntered_pocketLawsKept _ _ _ _

theorem execPowerOkRiseInReset_keepsPocketLaws (straps : Straps) (s : State) :
    s.KeepsPocketLaws (execPowerOkRiseInReset straps s) :=
  .guardedAlike { State.Alike.refl s with }

theorem execResetRelease_keepsPocketLaws (straps : Straps) (retain : Bool) (s : State) :
    s.KeepsPocketLaws (execResetRelease straps retain s) := by
  unfold execResetRelease
  split
  · split
    · exact .next (s.fullInit_pocketLawsKept _)
    · exact .next (s.fullInit_pocketLawsKept _)
    · exact .next s.retainReset_pocketLawsKept
  · exact .same s

theorem execHeaderByteCheck_keepsPocketLaws (byte : Byte) (s : State) : s.KeepsPocketLaws (execHeaderByteCheck byte s) := by
  unfold execHeaderByteCheck
  split
  · rename_i h
    split
    · exact .alike { State.Alike.refl s with }
    · exact .next (s.halt_pocketLawsKept h.1)
  · exact .same s

theorem execConfigReadComplete_keepsPocketLaws (rest : List Byte) (s : State) :
    s.KeepsPocketLaws (execConfigReadComplete rest s) := by
  unfold execConfigReadComplete
  dsimp only
  split
  · rename_i h
    split
    · exact .next (s.completeLoad_pocketLawsKept _ _ h.1)
    · exact .next (s.halt_pocketLawsKept h.1)
  · exact .same s

/-! ### Every step -/

/-- Each command keeps the laws: by the lemma of its row, and for a received frame by what its owning block does. -/
theorem exec_keepsPocketLaws (c : Instr) (s : State) : s.KeepsPocketLaws (exec c s) := by
  have hreceived (h : Header) (owner : State → State) (howner : ∀ t : State, t.PocketLawsKept (owner t)) :
      s.KeepsPocketLaws (.next (s.receiveOrHandOn h owner)) := .next (s.receiveOrHandOn_pocketLawsKept h owner howner)
  cases c
  case tachEdge => exact execTachEdge_keepsPocketLaws s
  case tachStall => exact execTachStall_keepsPocketLaws s
  case noiseFilterAccept high => exact execNoiseFilterAccept_keepsPocketLaws high s
  case quietSeen high => exact execQuietSeen_keepsPocketLaws high s
  case runEndByQuiet high => exact execRunEndByQuiet_keepsPocketLaws high s
  case sweepEdge => exact execSweepEdge_keepsPocketLaws s
  case pcellLeadingEdge => exact execPcellLeadingEdge_keepsPocketLaws s
  case pcellTrailingEdge => exact execPcellTrailingEdge_keepsPocketLaws s
  case jamPoint => exact execJamPoint_keepsPocketLaws s
  case expiryPoint => exact execExpiryPoint_keepsPocketLaws s
  case retirementPoint => exact execRetirementPoint_keepsPocketLaws s
  case scanClosePoint => exact execScanClosePoint_keepsPocketLaws s
  case decisionPoint => exact execDecisionPoint_keepsPocketLaws s
  case firePoint k => exact execFirePoint_keepsPocketLaws k s
  case pullInExpiry k => exact execPullInExpiry_keepsPocketLaws k s
  case chopPartExpiry k => exact execChopPartExpiry_keepsPocketLaws k s
  case releasePoint k => exact execReleasePoint_keepsPocketLaws k s
  case confirmClose k => exact execConfirmClose_keepsPocketLaws k s
  case pentryEdge k => exact execPentryEdge_keepsPocketLaws k s
  case pfullChange k active => exact execPfullChange_keepsPocketLaws k active s
  case pswapActive k => exact execPswapActive_keepsPocketLaws k s
  case pswapInactive k => exact execPswapInactive_keepsPocketLaws k s
  case busFree => exact execBusFree_keepsPocketLaws s
  case startOfFrame highCells => exact execStartOfFrame_keepsPocketLaws highCells s
  case arbitrationLost => exact execArbitrationLost_keepsPocketLaws s
  case bitError => exact execBitError_keepsPocketLaws s
  case attemptEnd acked => exact execAttemptEnd_keepsPocketLaws acked s
  case sightStalePoint => exact execSightStalePoint_keepsPocketLaws s
  case brokenFrame cells => exact execBrokenFrame_keepsPocketLaws cells s
  case jamReceived h reason => exact hreceived h _ State.takeJam_pocketLawsKept
  case clearReceived h => exact hreceived h _ State.takeClear_pocketLawsKept
  case claimReceived h id pocket => exact hreceived h _ fun t => (t.takeClaim_alike h id pocket).pocketLawsKept
  case releaseReceived h id pocket reason => exact hreceived h _ fun t => (t.takeRelease_alike h id pocket).pocketLawsKept
  case divertedReceived h id pocket tally => exact hreceived h _ fun t => (t.takeDiverted_alike h id).pocketLawsKept
  case sightReceived h id age length =>
    exact .next (s.receive_pocketLawsKept h _ fun t => (t.takeSight_alike h id age length).pocketLawsKept)
  case readReceived h id outcome quality sweeps code =>
    exact hreceived h _ fun t => (t.takeRead_alike h id outcome quality code).pocketLawsKept
  case lostReceived h id => exact hreceived h _ fun t => (t.takeLost_alike h id).pocketLawsKept
  case pollReceived h target => exact hreceived h _ fun t => (t.takePoll_alike target).pocketLawsKept
  case joinReceived h pockets crc => exact .next (s.receive_pocketLawsKept h _ .refl)
  case ignoredFrameReceived h kind body => exact .guarded fun _ => s.receive_pocketLawsKept h _ .refl
  case stopPress => exact execStopPress_keepsPocketLaws s
  case stopRelease => exact execStopRelease_keepsPocketLaws s
  case resumePress => exact execResumePress_keepsPocketLaws s
  case resetEntry signal => exact execResetEntry_keepsPocketLaws signal s
  case powerOkRiseInReset straps => exact execPowerOkRiseInReset_keepsPocketLaws straps s
  case resetRelease straps retain => exact execResetRelease_keepsPocketLaws straps retain s
  case headerByteCheck byte => exact execHeaderByteCheck_keepsPocketLaws byte s
  case configReadComplete rest => exact execConfigReadComplete_keepsPocketLaws rest s
  case videoSample high => exact execVideoSample_keepsPocketLaws high s

theorem step_keepsPocketLaws (s : State) : s.KeepsPocketLaws (step s) := by
  cases hp : s.pending with
  | nil =>
    rw [step_of_idle s hp]
    exact .alike s.tick_alike
  | cons c cs =>
    rw [step_of_pending s c cs hp]
    have htaken : s.Alike { s with pending := cs } := { State.Alike.refl s with }
    exact fun t ht => htaken.pocketLawsKept.trans (exec_keepsPocketLaws c _ t ht)

/-- Settles O57: the law of the drives is one of those that a step keeps. -/
theorem stepKeepsDrivesAgreeing : Obligations.StepKeepsDrivesAgreeing := by
  unfold Obligations.StepKeepsDrivesAgreeing
  exact fun s t h => (step_keepsPocketLaws s t h).drives

/-- Settles O59: the laws of the conditions and of the pocket states are kept together, for the acknowledge of a STATUS
leaves POCKET_FAULT and POCKET_FULL by the marks that the first of them allows. -/
theorem stepKeepsConditionsAndPocketStates : Obligations.StepKeepsConditionsAndPocketStates := by
  unfold Obligations.StepKeepsConditionsAndPocketStates
  exact fun s t h => (step_keepsPocketLaws s t h).signals

end Sys2Proof.Machine
end

section
/-! PROOF. The inputs of a pocket (R114 to R119): its state, the end of a swap, and the entry edges (R116, R130 to R132). -/

namespace Sys2Proof.Machine

/-! ### A pocket with its state formed -/

theorem formedState_eq (rule : PocketRule) (swap full fault : Bool) (tally : Word) :
    formedState rule swap full fault tally =
      (if rule.kind = .off then .off
       else if swap = true then .out
       else if fault = true then .fault
       else if full = true ∨ (rule.tallyLimit ≠ 0 ∧ rule.tallyLimit.toNat ≤ tally.toNat) then .full
       else .ready) := by
  simp only [formedState, Bool.or_eq_true, Bool.and_eq_true, bne_iff_ne, decide_eq_true_eq, BitVec.le_def]

theorem any_pocket_eq {α : Type} (f : α → Bool) (v : PerPocket α) : v.any f = decide (∃ k, f (v.get k) = true) :=
  Bool.eq_iff_iff.mpr ((any_pocket_iff f v).trans decide_eq_true_iff.symm)

theorem pocketConditions_eq (ps : PerPocket Pocket) (x : Conditions) :
    pocketConditions ps x =
      (x.setTo .pocketFault (decide (∃ k, (ps.get k).state = .fault))).setTo .pocketFull
        (decide (∃ k, (ps.get k).state = .full ∨ (ps.get k).state = .out)) := by
  simp only [pocketConditions, any_pocket_eq, Bool.or_eq_true, beq_iff_eq]

theorem State.formPocket_eq (s : State) (k : Fin 4) :
    s.formPocket k = s.withPocket k ((s.pocket k).formed (s.rule k) (s.pins.pswap.get k) (s.pins.pfull.get k)) := rfl

theorem State.setPocket_formPocket (s : State) (k : Fin 4) (p : Pocket) :
    (s.setPocket k p).formPocket k = s.withPocket k (p.formed (s.rule k) (s.pins.pswap.get k) (s.pins.pfull.get k)) := by
  have hpocket : (s.setPocket k p).pocket k = p := get_set_same _ _ _
  rw [State.formPocket_eq, hpocket]
  simp only [State.withPocket, State.setPocket_pockets, set_set]
  rfl

/-- The two conditions follow the states, so a pocket that keeps its state may change after them (R114). -/
theorem State.withPocket_setPocket (s : State) (k : Fin 4) (p q : Pocket) (h : q.state = p.state) :
    (s.withPocket k p).setPocket k q = s.withPocket k q := by
  have hconditions : pocketConditions (s.pockets.set k p) s.conditions = pocketConditions (s.pockets.set k q) s.conditions :=
    pocketConditions_of_states _ _ _ fun j => by
      rw [get_set, get_set]
      split
      · exact h.symm
      · rfl
  simp only [State.withPocket, State.setPocket, set_set, hconditions]

/-! ### PFULL, and the end of a swap -/

theorem State.inputsTaken_eq_false (s : State) (k : Fin 4) (h : s.joined = false ∨ (s.pocket k).state = .off) :
    ¬s.inputsTaken k = true := by
  rw [State.inputsTaken_iff]
  rintro ⟨hj, hon⟩
  rcases h with h | h
  · simp [hj] at h
  · exact hon h

/-- The station with another level at PFULL of the pocket. -/
def State.withPfull (s : State) (k : Fin 4) (b : Bool) : State :=
  { s with pins := { s.pins with pfull := s.pins.pfull.set k b } }

/-- The station with another level at PSWAP of the pocket. -/
def State.withPswap (s : State) (k : Fin 4) (b : Bool) : State :=
  { s with pins := { s.pins with pswap := s.pins.pswap.set k b } }

theorem execPfullChange_eq (k : Fin 4) (active : Bool) (s : State) (h : s.pins.pfull.get k ≠ active) :
    execPfullChange k active s =
      if s.inputsTaken k then .next ((s.withPfull k active).formPocket k) else .next (s.withPfull k active) :=
  if_neg h

theorem execPswapActive_eq (k : Fin 4) (s : State) (h : s.pins.pswap.get k = false) :
    execPswapActive k s =
      if s.inputsTaken k then
        .next ((s.pocket k).ops.foldl (fun u o => u.swapCancel k o) ((s.withPswap k true).formPocket k))
      else .next (s.withPswap k true) :=
  if_neg (by simp [h])

theorem execPswapInactive_eq (k : Fin 4) (s : State) (h : s.pins.pswap.get k = true) :
    execPswapInactive k s =
      if s.inputsTaken k then
        .next
          (((s.withPswap k false).setPocket k { s.pocket k with tally := 0, missCount := 0, fault := false }).formPocket k)
      else .next (s.withPswap k false) :=
  if_pos h

theorem State.withPfull_formPocket (s : State) (k : Fin 4) (b : Bool) :
    (s.withPfull k b).formPocket k =
      (s.withPfull k b).withPocket k ((s.pocket k).formed (s.rule k) (s.pins.pswap.get k) b) := by
  have hlevel : (s.withPfull k b).pins.pfull.get k = b := get_set_same _ _ _
  rw [State.formPocket_eq, hlevel]
  rfl

theorem State.withPswap_setPocket_formPocket (s : State) (k : Fin 4) (b : Bool) (p : Pocket) :
    ((s.withPswap k b).setPocket k p).formPocket k =
      (s.withPswap k b).withPocket k (p.formed (s.rule k) b (s.pins.pfull.get k)) := by
  have hlevel : (s.withPswap k b).pins.pswap.get k = b := get_set_same _ _ _
  rw [State.setPocket_formPocket, hlevel]
  rfl

/-- Settles O31: the tests of R114 as defined, the conditions by the states, and the two inputs by whether they are taken. -/
theorem pocketInputsFormState : Obligations.PocketInputsFormState := by
  unfold Obligations.PocketInputsFormState
  refine ⟨formedState_eq, pocketConditions_eq, fun s k => ⟨fun active hchange => ?full, fun hswap => ?swap⟩⟩
  case full =>
    have hexec : exec (.pfullChange k active) s = _ := execPfullChange_eq k active s hchange
    refine ⟨fun hj hon => ?_, fun hout => hexec.trans (if_neg (s.inputsTaken_eq_false k hout))⟩
    rw [hexec, if_pos ((s.inputsTaken_iff k).mpr ⟨hj, hon⟩), State.withPfull_formPocket]
    rfl
  case swap =>
    have hexec : exec (.pswapInactive k) s = _ := execPswapInactive_eq k s hswap
    refine ⟨fun hj hon => ?_, fun hout => hexec.trans (if_neg (s.inputsTaken_eq_false k hout))⟩
    rw [hexec, if_pos ((s.inputsTaken_iff k).mpr ⟨hj, hon⟩), State.withPswap_setPocket_formPocket]
    rfl

/-! ### Entry edges -/

/-- A pocket with the entry edge counted and its state formed (R116). -/
def State.entryCounted (s : State) (k : Fin 4) : Pocket :=
  ({ s.pocket k with tally := satInc (s.pocket k).tally } : Pocket).formed (s.rule k) (s.pins.pswap.get k)
    (s.pins.pfull.get k)

theorem State.setPocket_tally_formPocket (s : State) (k : Fin 4) :
    (s.setPocket k { s.pocket k with tally := satInc (s.pocket k).tally }).formPocket k =
      s.withPocket k (s.entryCounted k) :=
  s.setPocket_formPocket k _

theorem execPentryEdge_confirms (k : Fin 4) (s : State) (o : GateOp) (h : s.inputsTaken k = true)
    (ho : (s.pocket k).ops.find? GateOp.eligible = some o) :
    execPentryEdge k s = .next ((s.withPocket k (s.entryCounted k)).confirm k o) := by
  simp only [execPentryEdge, h, if_true, ho, State.setPocket_tally_formPocket]

theorem execPentryEdge_strays (k : Fin 4) (s : State) (h : s.inputsTaken k = true)
    (hnone : (s.pocket k).ops.find? GateOp.eligible = none) :
    execPentryEdge k s = .next ((s.withPocket k (s.entryCounted k)).latch .divertAnomaly) := by
  simp only [execPentryEdge, h, if_true, hnone, State.setPocket_tally_formPocket]

theorem eligible_eq_false {o : GateOp} (h : o.state = .armed ∨ o.confirmed = true) : o.eligible = false := by
  rcases h with h | h <;> simp [GateOp.eligible, GateOp.fired, h]

theorem confirmedOps_first (before after : List GateOp) (o : GateOp) (hb : ∀ x ∈ before, x.eligible = false)
    (ho : o.eligible = true) :
    confirmedOps o (before ++ o :: after) =
      if o.state = .trailing then before ++ after else before ++ { o with confirmed := true } :: after := by
  rw [confirmedOps, eraseP_first _ before after o hb ho, modifyFirst_first _ _ before after o hb ho]

/-- The station with the letter of the operation diverted: its DIVERTED queued and counted, its entry removed (R131). -/
def State.divertedOut (s : State) (k : Fin 4) (o : GateOp) (tally : Word) : State :=
  State.removeEntry
    { s.enqueue (.diverted o.id k tally) with counters := { s.counters with diverted := satInc s.counters.diverted } } o.id

theorem State.confirm_withPocket (s : State) (k : Fin 4) (p : Pocket) (o : GateOp) :
    (s.withPocket k p).confirm k o =
      (s.withPocket k { p with ops := confirmedOps o p.ops, missCount := 0 }).divertedOut k o p.tally := by
  have hpocket : (s.withPocket k p).pocket k = p := get_set_same _ _ _
  rw [State.confirm, hpocket, s.withPocket_setPocket k p { p with ops := confirmedOps o p.ops, missCount := 0 } rfl]
  rfl

/-- Settles O30: the edge is counted, and the first eligible operation, if there is one, is confirmed. -/
theorem entryEdgeConfirmsOrStrays : Obligations.EntryEdgeConfirmsOrStrays := by
  unfold Obligations.EntryEdgeConfirmsOrStrays
  refine ⟨fun s k hout => if_neg (s.inputsTaken_eq_false k hout), fun s => ?outside, fun s k hj hon => ?taken⟩
  case outside => cases hr : s.runState <;> simp [State.joined, hr]
  case taken =>
    intro p tally counted
    have htaken := (s.inputsTaken_iff k).mpr ⟨hj, hon⟩
    have htally : satInc p.tally = tally := satInc_word p.tally
    have hcounted : s.entryCounted k = counted := by
      simp only [State.entryCounted, counted, ← htally, p]
    refine ⟨fun hnone => ?stray, fun before after o hops hbefore hfired hconf => ?confirm⟩
    case stray =>
      rw [← hcounted]
      exact execPentryEdge_strays k s htaken
        (List.find?_eq_none.mpr fun x hx => by simp [eligible_eq_false (hnone x hx)])
    case confirm =>
      have hb (x : GateOp) (hx : x ∈ before) : x.eligible = false := eligible_eq_false (hbefore x hx)
      have ho : o.eligible = true := (eligible_iff o).mpr ⟨hfired, hconf⟩
      have hlist : counted.ops = before ++ o :: after := hops
      refine (execPentryEdge_confirms k s o htaken (hops ▸ find_first _ before after o hb ho)).trans ?_
      rw [hcounted, State.confirm_withPocket, hlist, confirmedOps_first before after o hb ho]
      rfl

end Sys2Proof.Machine
end

section
/-! PROOF. The gate drive (R124 to R129): firing, the pull-in and the parts of the chop, and the release of an operation. -/

namespace Sys2Proof.Machine

/-! ### Firing (R125) -/

theorem opFires_eq_false {count : Pos} {o : GateOp} (h : ¬(o.state = .armed ∧ Reached count (some o.fire))) :
    opFires count o = false :=
  Bool.eq_false_iff.mpr (mt (opFires_iff count o).mp h)

/-- The first operation in list order whose fire point is reached fires into the phase of the drive (log 21). -/
theorem execFirePoint_first (s : State) (k : Fin 4) (before after : List GateOp) (o : GateOp)
    (hops : (s.pocket k).ops = before ++ o :: after) (hbefore : ∀ x ∈ before, opFires s.tach.count x = false)
    (ho : opFires s.tach.count o = true) :
    execFirePoint k s =
      .next
        (s.withGate k (before ++ { o with state := firedState (s.pocket k).drive } :: after)
          (driveOnFire s.cfg.pullIn (s.pocket k).drive)) := by
  have hany : (s.pocket k).ops.any (opFires s.tach.count) = true :=
    List.any_eq_true.mpr ⟨o, by simp [hops], ho⟩
  rw [execFirePoint, if_pos hany, hops, modifyFirst_first _ _ before after o hbefore ho]
  rfl

/-! ### The timers of the drive (R126, R127) -/

theorem execPullInExpiry_of_pulling (k : Fin 4) (s : State) (t : Word) (hd : (s.pocket k).drive = .pulling t) :
    execPullInExpiry k s =
      if t = 0 then .next (s.withGate k ((s.pocket k).ops.map pulledIn) (.holding true s.cfg.holdOn)) else .next s := by
  simp only [execPullInExpiry, hd]
  rfl

theorem execChopPartExpiry_of_holding (k : Fin 4) (s : State) (on : Bool) (t : Word)
    (hd : (s.pocket k).drive = .holding on t) :
    execChopPartExpiry k s =
      if t = 0 then
        .next (s.withGate k (s.pocket k).ops (.holding (!on) (if on then s.cfg.holdOff else s.cfg.holdOn)))
      else .next s := by
  simp only [execChopPartExpiry, hd]
  rfl

theorem gateOn_iff (d : Drive) : d.gateOn = true ↔ (∃ t, d = .pulling t) ∨ ∃ t, d = .holding true t := by
  cases d <;> simp [Drive.gateOn]

/-- Settles O27: the firing by the drive's phase, each timer by whether it stands at 0, GATEk by the drive. -/
theorem firePointAndDriveTimers : Obligations.FirePointAndDriveTimers := by
  unfold Obligations.FirePointAndDriveTimers
  refine ⟨fun s k before after o hops hbefore harmed hreached => ?fire, fun s k t => ⟨fun hd => ?pullIn, fun hd => ?onPart,
    fun hd => ?offPart⟩, fun s k => gateOn_iff _⟩
  case fire =>
    have hexec : exec (.firePoint k) s = _ := execFirePoint_first s k before after o hops
      (fun x hx => opFires_eq_false (hbefore x hx)) ((opFires_iff _ _).mpr ⟨harmed, hreached⟩)
    exact ⟨fun hd => hexec.trans (by rw [hd]; rfl), fun t hd => hexec.trans (by rw [hd]; rfl),
      fun on t hd => hexec.trans (by rw [hd]; rfl)⟩
  case pullIn =>
    have hexec : exec (.pullInExpiry k) s = _ := execPullInExpiry_of_pulling k s t hd
    exact ⟨fun h => hexec.trans (if_pos h), fun h => hexec.trans (if_neg h)⟩
  case onPart =>
    have hexec : exec (.chopPartExpiry k) s = _ := execChopPartExpiry_of_holding k s true t hd
    exact ⟨fun h => hexec.trans (if_pos h), fun h => hexec.trans (if_neg h)⟩
  case offPart =>
    have hexec : exec (.chopPartExpiry k) s = _ := execChopPartExpiry_of_holding k s false t hd
    exact ⟨fun h => hexec.trans (if_pos h), fun h => hexec.trans (if_neg h)⟩

/-! ### The release (R128, R129) -/

theorem opReleases_eq_false {count : Pos} {o : GateOp}
    (h : ¬((o.state = .pullIn ∨ o.state = .hold) ∧ Reached count o.release)) : opReleases count o = false :=
  Bool.eq_false_iff.mpr (mt (opReleases_iff count o).mp h)

theorem releasedOps_first (count : Pos) (before after : List GateOp) (o : GateOp)
    (hbefore : ∀ x ∈ before, opReleases count x = false) (ho : opReleases count o = true) :
    releasedOps count o (before ++ o :: after) =
      if o.confirmed then before ++ after else before ++ { o with state := .trailing } :: after := by
  rw [releasedOps, eraseP_first _ before after o hbefore ho, modifyFirst_first _ _ before after o hbefore ho]

/-- The first operation in list order whose release point is reached is released (log 21). -/
theorem execReleasePoint_first (s : State) (k : Fin 4) (before after ops : List GateOp) (o : GateOp)
    (hops : (s.pocket k).ops = before ++ o :: after) (hbefore : ∀ x ∈ before, opReleases s.tach.count x = false)
    (ho : opReleases s.tach.count o = true)
    (hreleased : (if o.confirmed then before ++ after else before ++ { o with state := .trailing } :: after) = ops) :
    execReleasePoint k s =
      if o.confirmed = false ∧ o.confirmClose = o.release then
        .next ((s.withGate k ops (driveAfter ops (s.pocket k).drive)).miss k { o with state := .trailing })
      else .next (s.withGate k ops (driveAfter ops (s.pocket k).drive)) := by
  have hfind : (s.pocket k).ops.find? (opReleases s.tach.count) = some o :=
    hops ▸ find_first _ before after o hbefore ho
  have hlist : releasedOps s.tach.count o (s.pocket k).ops = ops := by
    rw [hops, releasedOps_first _ before after o hbefore ho, hreleased]
  simp only [execReleasePoint, hfind, hlist]
  rfl

theorem any_active_eq (ops : List GateOp) :
    ops.any GateOp.active = ops.any (fun x => decide (x.state = .pullIn ∨ x.state = .hold)) :=
  congrArg ops.any (funext fun x => Bool.eq_iff_iff.mpr ((active_iff x).trans decide_eq_true_iff.symm))

/-- An operation that ends or trails needs the drive no more (R128). -/
theorem any_active_trailing (before after : List GateOp) (o : GateOp) (ho : o.state = .trailing) :
    (before ++ o :: after).any GateOp.active = (before ++ after).any GateOp.active := by
  simp [inactive_of_state (.inr ho)]

/-- Settles O28: the first due operation is released, and misses in the same event if its confirm close stands there. -/
theorem releasePointEndsOrTrails : Obligations.ReleasePointEndsOrTrails := by
  unfold Obligations.ReleasePointEndsOrTrails
  intro s k before after o hops hbefore hactive hreached others drive t
  have hb (x : GateOp) (hx : x ∈ before) : opReleases s.tach.count x = false := opReleases_eq_false (hbefore x hx)
  have ho : opReleases s.tach.count o = true := (opReleases_iff _ _).mpr ⟨hactive, hreached⟩
  have hends : driveAfter (before ++ after) (s.pocket k).drive = drive := by
    rw [driveAfter, any_active_eq]
  have htrails : driveAfter (before ++ { o with state := .trailing } :: after) (s.pocket k).drive = drive := by
    rw [← hends, driveAfter, driveAfter, any_active_trailing before after { o with state := .trailing } rfl]
  have hexec (ops : List GateOp) := execReleasePoint_first s k before after ops o hops hb ho
  refine ⟨fun hconf => ?ends, fun hconf hclose => ?trails, fun hconf hclose => ?misses⟩
  case ends =>
    refine (hexec (before ++ after) (by simp [hconf])).trans ?_
    rw [if_neg (by simp [hconf]), hends]
  case trails =>
    refine (hexec (before ++ { o with state := .trailing } :: after) (by simp [hconf])).trans ?_
    rw [if_neg (by simp [hclose]), htrails]
  case misses =>
    refine (hexec (before ++ { o with state := .trailing } :: after) (by simp [hconf])).trans ?_
    rw [if_pos ⟨hconf, hclose⟩, htrails]

end Sys2Proof.Machine
end

section
/-! PROOF. The start of a swap (R118, R137): its ARMED operations leave the list, and their letters are released. -/

namespace Sys2Proof.Machine

/-! ### A release reads no operation list and no drive -/

theorem State.enqueue_withGate (s : State) (k : Fin 4) (ops : List GateOp) (drive : Drive) (f : Frame) :
    (s.withGate k ops drive).enqueue f = (s.enqueue f).withGate k ops drive :=
  match k with
  | 0 => rfl
  | 1 => rfl
  | 2 => rfl
  | 3 => rfl

theorem State.releaseClaim_withGate (s : State) (k j : Fin 4) (ops : List GateOp) (drive : Drive) (id : LetterId)
    (reason : ReleaseReason) :
    (s.withGate k ops drive).releaseClaim id j reason = (s.releaseClaim id j reason).withGate k ops drive := by
  have hclaim : (s.withGate k ops drive).setClaim id .releasedSelf =
      (s.setClaim id .releasedSelf).withGate k ops drive := rfl
  have hwaits : (s.withGate k ops drive).claimWaits id = s.claimWaits id := rfl
  by_cases hw : s.claimWaits id = true
  · rw [State.releaseClaim_of_waiting _ id j reason (hwaits.trans hw),
      State.releaseClaim_of_waiting s id j reason hw, hclaim]
    rfl
  · rw [State.releaseClaim_of_sent _ id j reason (hwaits ▸ hw), State.releaseClaim_of_sent s id j reason hw, hclaim,
      State.enqueue_withGate]
    rfl

theorem State.withGate_self (s : State) (k : Fin 4) : s.withGate k (s.pocket k).ops (s.pocket k).drive = s :=
  match k with
  | 0 => rfl
  | 1 => rfl
  | 2 => rfl
  | 3 => rfl

theorem State.withGate_pocket (s : State) (k : Fin 4) (ops : List GateOp) (drive : Drive) :
    (s.withGate k ops drive).pocket k = { s.pocket k with ops := ops, drive := drive } := get_set_same _ _ _

/-! ### The cancelled operations -/

/-- The letter's ARMED operation is the one cancelled when no operation before it is ARMED (R137). -/
theorem State.cancelOp_withGate (s : State) (k : Fin 4) (drive : Drive) (before after : List GateOp) (o : GateOp)
    (hbefore : ∀ x ∈ before, x.state ≠ .armed) (harmed : o.state = .armed) (hconf : o.confirmed = false) :
    (s.withGate k (before ++ o :: after) drive).cancelOp k o.id = s.withGate k (before ++ after) drive := by
  have herase : (before ++ o :: after).eraseP (fun x => x.tiedTo o.id && x.state == .armed) = before ++ after :=
    eraseP_first _ before after o (fun x hx => by simp [hbefore x hx]) (by simp [GateOp.tiedTo, hconf, harmed])
  calc (s.withGate k (before ++ o :: after) drive).cancelOp k o.id
    _ = (s.withGate k (before ++ o :: after) drive).setPocket k
          { s.pocket k with
            ops := (before ++ o :: after).eraseP (fun x => x.tiedTo o.id && x.state == .armed), drive := drive } := by
        rw [State.cancelOp, s.withGate_pocket k]
    _ = s.withGate k (before ++ after) drive := by
        rw [herase]
        exact congrArg (fun v => { s with pockets := v }) (set_set _ _ _ _)

/-- A swap cancels the ARMED operations of a list one by one, those before it being fired. -/
theorem State.swapCancels_withGate (k : Fin 4) (drive : Drive) (ops : List GateOp)
    (hconf : ∀ o ∈ ops, o.state = .armed → o.confirmed = false) (s : State) (fired : List GateOp)
    (hfired : ∀ x ∈ fired, x.state ≠ .armed) :
    ops.foldl (fun u o => u.swapCancel k o) (s.withGate k (fired ++ ops) drive) =
      ((ops.filter (fun o => decide (o.state = .armed))).foldl (fun v o => v.releaseClaim o.id k .swap) s).withGate k
        (fired ++ ops.filter (fun o => decide (o.state ≠ .armed))) drive := by
  induction ops generalizing s fired with
  | nil => rfl
  | cons o rest ih =>
    obtain ⟨ho, hrest⟩ := List.forall_mem_cons.mp hconf
    by_cases harmed : o.state = .armed
    · have hcancel : (s.withGate k (fired ++ o :: rest) drive).swapCancel k o =
          (s.releaseClaim o.id k .swap).withGate k (fired ++ rest) drive := by
        rw [State.swapCancel, if_pos harmed, State.releaseClaim_withGate,
          State.cancelOp_withGate _ k drive fired rest o hfired harmed (ho harmed)]
      rw [List.foldl_cons, hcancel, ih hrest _ fired hfired]
      simp [harmed]
    · have hstays : (s.withGate k (fired ++ o :: rest) drive).swapCancel k o =
          s.withGate k ((fired ++ [o]) ++ rest) drive := by
        rw [State.swapCancel, if_neg harmed, List.append_assoc]
        rfl
      have hmore : ∀ x ∈ fired ++ [o], x.state ≠ .armed :=
        List.forall_mem_append.mpr ⟨hfired, List.forall_mem_singleton.mpr harmed⟩
      rw [List.foldl_cons, hstays, ih hrest _ _ hmore]
      simp [harmed]

theorem State.withPswap_formPocket (s : State) (k : Fin 4) (b : Bool) :
    (s.withPswap k b).formPocket k =
      (s.withPswap k b).withPocket k ((s.pocket k).formed (s.rule k) b (s.pins.pfull.get k)) := by
  have hlevel : (s.withPswap k b).pins.pswap.get k = b := get_set_same _ _ _
  rw [State.formPocket_eq, hlevel]
  rfl

/-- Settles O32: the pocket's state is formed, then the ARMED operations are cancelled in list order. -/
theorem swapCancelsArmedOperations : Obligations.SwapCancelsArmedOperations := by
  unfold Obligations.SwapCancelsArmedOperations
  intro s k hswap p t
  have hexec : exec (.pswapActive k) s = _ := execPswapActive_eq k s hswap
  refine ⟨fun hj hon hconf => ?taken, fun hout => hexec.trans (if_neg (s.inputsTaken_eq_false k hout))⟩
  intro u armed fired
  have hformed : (s.withPswap k true).formPocket k = u := s.withPswap_formPocket k true
  have hpocket : u.pocket k = p.formed (s.rule k) true (s.pins.pfull.get k) := get_set_same _ _ _
  have hself : u.withGate k p.ops p.drive = u := by
    have h := u.withGate_self k
    rwa [hpocket] at h
  have hcancelled := State.swapCancels_withGate k p.drive p.ops hconf u [] (by simp)
  rw [List.nil_append, hself] at hcancelled
  rw [hexec, if_pos ((s.inputsTaken_iff k).mpr ⟨hj, hon⟩), hformed]
  exact congrArg _ hcancelled

end Sys2Proof.Machine
end

section
/-! PROOF. The release of a retain reset (R164, R167): what it keeps, the JOIN it queues, and the conditions it leaves. -/

namespace Sys2Proof.Machine

theorem execResetRelease_of_retained (s : State) (straps : Straps) (cfg : StationConfig) (hr : s.runState = .reset)
    (hpower : s.powerLost = false) (hhalted : s.haltedAtEntry = false) (hconfig : s.config = some cfg) :
    execResetRelease straps true s = .next s.retainInit.enterJoining := by
  have hkind : resetKind s true = .retain := by simp [resetKind, hpower, hhalted, hconfig]
  rw [execResetRelease, if_pos hr, hkind]

/-! ### The parts of the station in JOINING -/

/-- The line is not free, so the JOIN waits (R175). -/
theorem State.joining_enqueue_join (s : State) (count : Nat) (crc : Word) :
    s.joining.enqueue (.join count crc) =
      { s.joining with line := { s.joining.line with queue := [newQueued (.join count crc)] } } := rfl

theorem State.enterJoining_line (s : State) :
    s.enterJoining.line =
      { s.line with
        state := .waitFree, ackDriven := false, sending := [],
        queue := [newQueued (.join s.cfg.pocketCount s.cfg.crc)] } := by
  rw [State.enterJoining_eq, State.joining_enqueue_join]
  rfl

theorem State.Idle.enterJoining {s : State} (h : s.Idle) : s.enterJoining.Idle :=
  State.formAllPockets_idle _ (s.joining.enqueue_idle _ rfl
    (h.of_same_table rfl rfl rfl (fun k => ⟨h.ops k, h.drive k⟩) (Line.noLetters_of_empty rfl)))

/-- A pocket after the retain reset: the tally stays, the miss count and the fault flag do not, the state is formed anew. -/
theorem State.retainReset_pocket (s : State) (k : Fin 4) :
    s.retainInit.enterJoining.pocket k =
      (s.pocket k).retained.formed (s.rule k) (s.pins.pswap.get k) (s.pins.pfull.get k) := by
  rw [State.enterJoining_pocket, State.retainInit_pocket]
  rfl

/-! ### The conditions of pockets without a fault -/

theorem formedState_ne_fault (rule : PocketRule) (swap full : Bool) (tally : Word) :
    formedState rule swap full false tally ≠ .fault := by
  rw [formedState_eq]
  simp only [Bool.false_eq_true, if_false]
  repeat' split
  all_goals nofun

theorem Conditions.setTo_of_same {x : Conditions} {c : Condition} {v : Bool} (h : x.isActive c = v) : x.setTo c v = x :=
  if_pos h

/-- With the two pocket conditions clear and no fault, only POCKET_FULL can change (R184). -/
theorem pocketConditions_of_no_fault (ps : PerPocket Pocket) (x : Conditions) (hfault : x.isActive .pocketFault = false)
    (hps : ∀ k, (ps.get k).state ≠ .fault) :
    pocketConditions ps x = x.setTo .pocketFull (decide (∃ k, (ps.get k).state = .full ∨ (ps.get k).state = .out)) := by
  rw [pocketConditions_eq, decide_eq_false (not_exists.mpr hps), Conditions.setTo_of_same hfault]

/-- A condition's delta bit is set exactly when its value changes (R184). -/
theorem Conditions.setTo_of_clear {x : Conditions} {c : Condition} (v : Bool) (hclear : x.isActive c = false)
    (hdeltas : x.deltas = 0) (hmarks : x.markedDeltas = 0) :
    (x.setTo c v).deltas = (if (x.setTo c v).isActive c = true then conditionBit c else 0)
      ∧ (x.setTo c v).markedLatched = x.markedLatched ∧ (x.setTo c v).markedDeltas = 0 := by
  have hvalue : (x.setTo c v).isActive c = v := by simp [Conditions.isActive_setTo]
  rw [hvalue]
  cases v
  case false =>
    rw [Conditions.setTo_of_same hclear]
    exact ⟨hdeltas, rfl, hmarks⟩
  case true => simp [Conditions.setTo, hclear, hdeltas, hmarks]

/-- The conditions after the retain reset: those kept, and POCKET_FULL by the pocket states (R167, R115). -/
theorem State.retainReset_conditions (s : State) :
    s.retainInit.enterJoining.conditions =
      s.conditions.kept.setTo .pocketFull
        (decide
          (∃ k, (s.retainInit.enterJoining.pocket k).state = .full ∨ (s.retainInit.enterJoining.pocket k).state = .out)) := by
  have hstates (k : Fin 4) : (s.retainInit.enterJoining.pocket k).state ≠ .fault := by
    rw [State.retainReset_pocket]
    exact formedState_ne_fault _ _ _ _
  exact pocketConditions_of_no_fault _ _ (s.conditions.isActive_kept .pocketFault) hstates

/-- Settles O51: the release is a retain reset, and each part of the station is read off the entry into JOINING. -/
theorem retainResetJoins : Obligations.RetainResetJoins := by
  unfold Obligations.RetainResetJoins
  intro s straps hr hpower hhalted cfg hconfig
  have hcfg : s.cfg = cfg := by rw [State.cfg, hconfig]; rfl
  have hline : s.retainInit.enterJoining.line = _ := s.retainInit.enterJoining_line
  have hpocket (k : Fin 4) := s.retainReset_pocket k
  refine ⟨s.retainInit.enterJoining, execResetRelease_of_retained s straps cfg hr hpower hhalted hconfig, rfl, hconfig, rfl,
    rfl, rfl, rfl, s.retainInit_idle.enterJoining, rfl, rfl, rfl, rfl, rfl, rfl, rfl, rfl, ?line, fun k => ?pockets,
    fun c => ?values, ?deltas⟩
  case line => rw [hline, ← hcfg]; rfl
  case pockets =>
    rw [hpocket k, ← hcfg]
    exact ⟨rfl, rfl, rfl, rfl⟩
  case values =>
    rw [State.retainReset_conditions, Conditions.isActive_setTo, Conditions.isActive_kept]
    by_cases hc : c = .pocketFull
    · subst hc
      simp
    · simp [hc]
  case deltas =>
    rw [State.retainReset_conditions]
    exact Conditions.setTo_of_clear _ (s.conditions.isActive_kept .pocketFull) rfl rfl

end Sys2Proof.Machine
end


section
/-! PROOF. The law of the transmit queue (R147, R152) by the parts it asks for: an orderly queue, and no frame in flight but
at a sender. What placing, offering, starting and withdrawing frames do to it. -/

namespace Sys2Proof.Machine

/-! ### Orderly queues -/

/-- What the law asks of the list of frames alone: order of kind code, at most one STATUS and one JOIN, attempt counts 0..2,
at most one frame in flight. -/
structure Orderly (l : List QueuedFrame) : Prop where
  sorted : KindSorted l
  statuses : l.countP (fun q => decide (frameKind q.frame = 10)) ≤ 1
  joins : l.countP (fun q => decide (frameKind q.frame = 11)) ≤ 1
  attempts : ∀ q ∈ l, q.attempts ≤ 2
  flights : l.countP (fun q => q.inFlight) ≤ 1

/-- No frame is in flight. -/
def Grounded (l : List QueuedFrame) : Prop := ∀ q ∈ l, q.inFlight = false

theorem Line.lawful_iff (l : Line) :
    l.Lawful ↔ Orderly l.queue ∧ (¬Grounded l.queue → l.state = .inFrame .sender) := by
  have hflight : ¬Grounded l.queue ↔ ∃ q ∈ l.queue, q.inFlight = true := by simp [Grounded]
  rw [hflight]
  exact ⟨fun ⟨h1, h2, h3, h4, h5, h6⟩ => ⟨⟨h1, h2, h3, h4, h5⟩, h6⟩,
    fun ⟨⟨h1, h2, h3, h4, h5⟩, h6⟩ => ⟨h1, h2, h3, h4, h5, h6⟩⟩

theorem Line.Lawful.orderly {l : Line} (h : l.Lawful) : Orderly l.queue := (l.lawful_iff.mp h).1

/-- A station that sends nothing has no frame in flight (R147). -/
theorem Line.Lawful.grounded {l : Line} (h : l.Lawful) (hl : l.state ≠ .inFrame .sender) : Grounded l.queue := by
  by_contra hflight
  exact hl ((l.lawful_iff.mp h).2 hflight)

/-- With no frame in flight the law does not read the line's state. -/
theorem Line.lawful_of_grounded {l : Line} (h : Orderly l.queue) (hg : Grounded l.queue) : l.Lawful :=
  l.lawful_iff.mpr ⟨h, fun hn => absurd hg hn⟩

theorem Orderly.nil : Orderly [] := ⟨List.Pairwise.nil, Nat.zero_le _, Nat.zero_le _, nofun, Nat.zero_le _⟩

theorem Orderly.sublist {l m : List QueuedFrame} (h : Orderly l) (hm : m.Sublist l) : Orderly m where
  sorted := h.sorted.sublist hm
  statuses := hm.countP_le.trans h.statuses
  joins := hm.countP_le.trans h.joins
  attempts q hq := h.attempts q (hm.subset hq)
  flights := hm.countP_le.trans h.flights

theorem Grounded.sublist {l m : List QueuedFrame} (h : Grounded l) (hm : m.Sublist l) : Grounded m :=
  fun q hq => h q (hm.subset hq)

theorem Line.Lawful.sublist {l : Line} (h : l.Lawful) (q : List QueuedFrame) (hq : q.Sublist l.queue) :
    Line.Lawful { l with queue := q } :=
  (Line.lawful_iff _).mpr
    ⟨h.orderly.sublist hq, fun hn => (l.lawful_iff.mp h).2 fun hg => hn (hg.sublist hq)⟩

/-- Frames changed in place, which keep their kinds and of which none takes off. -/
theorem Orderly.map {l : List QueuedFrame} (h : Orderly l) (f : QueuedFrame → QueuedFrame)
    (hkind : ∀ q, (f q).frame = q.frame) (hattempts : ∀ q ∈ l, (f q).attempts ≤ 2)
    (hflight : ∀ q, (f q).inFlight = true → q.inFlight = true) : Orderly (l.map f) where
  sorted := List.pairwise_map.mpr (by simp only [hkind]; exact h.sorted)
  statuses := by simpa only [List.countP_map, Function.comp_def, hkind] using h.statuses
  joins := by simpa only [List.countP_map, Function.comp_def, hkind] using h.joins
  attempts := List.forall_mem_map.mpr hattempts
  flights := by
    rw [List.countP_map]
    exact (List.countP_mono_left fun q _ => hflight q).trans h.flights

/-- One frame is changed in what its place does not depend on. -/
theorem Orderly.replace {before after : List QueuedFrame} {q r : QueuedFrame} (h : Orderly (before ++ q :: after))
    (hframe : r.frame = q.frame) (hattempts : r.attempts = q.attempts) (hflight : r.inFlight = q.inFlight) :
    Orderly (before ++ r :: after) where
  sorted := by simpa only [KindSorted, List.pairwise_append, List.pairwise_cons, List.forall_mem_cons, hframe] using h.sorted
  statuses := by simpa only [List.countP_append, List.countP_cons, hframe] using h.statuses
  joins := by simpa only [List.countP_append, List.countP_cons, hframe] using h.joins
  attempts := by
    simpa only [List.forall_mem_append, List.forall_mem_cons, hattempts] using h.attempts
  flights := by simpa only [List.countP_append, List.countP_cons, hflight] using h.flights

/-- The head of a queue that holds no frame in flight takes off (R147). -/
theorem Orderly.takeOff {f : QueuedFrame} {rest : List QueuedFrame} (h : Orderly (f :: rest)) (hg : Grounded (f :: rest)) :
    Orderly ({ f with inFlight := true } :: rest) where
  sorted := List.pairwise_cons.mpr (List.pairwise_cons.mp h.sorted)
  statuses := by simpa only [List.countP_cons] using h.statuses
  joins := by simpa only [List.countP_cons] using h.joins
  attempts := List.forall_mem_cons.mpr (List.forall_mem_cons.mp h.attempts)
  flights := by
    have hrest : rest.countP (fun q => q.inFlight) = 0 :=
      List.countP_eq_zero.mpr fun q hq => by simp [hg q (List.mem_cons_of_mem _ hq)]
    simp [hrest]

/-! ### Placing and offering a frame -/

theorem isStatus_iff_kind (f : Frame) : isStatus f = true ↔ frameKind f = 10 := by
  cases f <;> simp [isStatus, frameKind]

theorem isJoin_iff_kind (f : Frame) : isJoin f = true ↔ frameKind f = 11 := by
  cases f <;> simp [isJoin, frameKind]

/-- A frame can be placed unless it is a second STATUS or a second JOIN (R155). -/
def Welcome (f : Frame) (l : List QueuedFrame) : Prop :=
  ∀ q ∈ l, frameKind q.frame = frameKind f → frameKind f ≠ 10 ∧ frameKind f ≠ 11

theorem Welcome.sublist {f : Frame} {l m : List QueuedFrame} (h : Welcome f l) (hm : m.Sublist l) : Welcome f m :=
  fun q hq => h q (hm.subset hq)

/-- Of a kind of which the queue holds one frame at most, it still does. -/
theorem countP_kind_placeFrame {f : Frame} {l : List QueuedFrame} {k : Nat} (hk : k = 10 ∨ k = 11) (hw : Welcome f l)
    (h : l.countP (fun q => decide (frameKind q.frame = k)) ≤ 1) :
    (placeFrame (newQueued f) l).countP (fun q => decide (frameKind q.frame = k)) ≤ 1 := by
  rw [countP_placeFrame]
  by_cases hf : frameKind f = k
  · have hnone : l.countP (fun q => decide (frameKind q.frame = k)) = 0 :=
      List.countP_eq_zero.mpr fun q hq => by
        have := hw q hq
        rw [decide_eq_true_eq]
        omega
    rw [hnone]
    split <;> omega
  · simpa [newQueued, hf] using h

theorem Orderly.placeFrame {f : Frame} {l : List QueuedFrame} (h : Orderly l) (hw : Welcome f l) :
    Orderly (placeFrame (newQueued f) l) where
  sorted := kindSorted_placeFrame _ _ h.sorted
  statuses := countP_kind_placeFrame (.inl rfl) hw h.statuses
  joins := countP_kind_placeFrame (.inr rfl) hw h.joins
  attempts q hq := by
    rcases (mem_placeFrame _ _ _).mp hq with rfl | hq
    · exact Nat.zero_le _
    · exact h.attempts q hq
  flights := by simpa [countP_placeFrame, newQueued] using h.flights

theorem grounded_placeFrame {f : Frame} {l : List QueuedFrame} (h : Grounded l) : Grounded (placeFrame (newQueued f) l) :=
  fun q hq => ((mem_placeFrame _ _ _).mp hq).elim (fun heq => heq ▸ rfl) (h q)

theorem placeNew_lawful (f : Frame) (w : Line × Conditions) (h : w.1.Lawful) (hw : Welcome f w.1.queue) :
    (placeNew f w).1.Lawful := by
  have hplaced (l : List QueuedFrame) (hl : l.Sublist w.1.queue)
      (heq : (placeNew f w).1.queue = placeFrame (newQueued f) l) : (placeNew f w).1.Lawful := by
    rw [Line.lawful_iff, heq, placeNew_state]
    exact ⟨(h.orderly.sublist hl).placeFrame (hw.sublist hl),
      fun hn => ((Line.lawful_iff _).mp h).2 fun hg => hn (grounded_placeFrame (hg.sublist hl))⟩
  rcases placeNew_queue f w with ⟨-, heq⟩ | ⟨l, hl, -, heq⟩ | ⟨-, heq⟩
  · exact hplaced _ (List.Sublist.refl _) heq
  · exact hplaced l hl heq
  · rwa [Line.lawful_iff, heq, placeNew_state, ← Line.lawful_iff]

/-- A replaced STATUS stays in flight where it was (R155). -/
theorem replaceStatus_lawful (l : Line) (h : l.Lawful) :
    Line.Lawful
      { l with
        queue := l.queue.map (fun q => if isStatus q.frame then { q with attempts := 0, replaced := q.inFlight } else q) } := by
  refine (Line.lawful_iff _).mpr ⟨h.orderly.map _ (fun q => ?_) (fun q hq => ?_) (fun q => ?_), fun hn => ?_⟩
  · split <;> rfl
  · split
    · exact Nat.zero_le _
    · exact h.orderly.attempts q hq
  · split <;> exact id
  · refine (l.lawful_iff.mp h).2 fun hg => hn ?_
    refine List.forall_mem_map.mpr fun q hq => ?_
    split <;> exact hg q hq

theorem offerFrame_lawful (f : Frame) (w : Line × Conditions) (h : w.1.Lawful) : (offerFrame f w).1.Lawful := by
  unfold offerFrame
  split
  · exact replaceStatus_lawful w.1 h
  · rename_i hstatus
    split
    · exact h
    · rename_i hjoin
      refine placeNew_lawful f w h fun q hq hkind => ?_
      simp only [Bool.and_eq_true, List.any_eq_true, isStatus_iff_kind, isJoin_iff_kind] at hstatus hjoin
      exact ⟨fun hf => hstatus ⟨hf, q, hq, hkind.trans hf⟩, fun hf => hjoin ⟨hf, q, hq, hkind.trans hf⟩⟩

/-- An attempt starts at a station that sends nothing (R147). -/
theorem startAttempt_lawful (s : State) (w : Line × Conditions) (h : w.1.Lawful) (hw : w.1.state ≠ .inFrame .sender) :
    (startAttempt s w).1.Lawful := by
  have hg := h.grounded hw
  have ho := h.orderly
  rcases startAttempt_queue s w with ⟨-, heq⟩ | ⟨f, rest, hq, heq, -⟩ | ⟨f, rest, hq, heq, hsender⟩
  · rwa [heq]
  · rw [hq] at ho hg
    exact Line.lawful_of_grounded (heq ▸ ho.sublist (List.sublist_cons_self _ _)) (heq ▸ hg.sublist (List.sublist_cons_self _ _))
  · rw [hq] at ho hg
    exact (Line.lawful_iff _).mpr ⟨heq ▸ ho.takeOff hg, fun _ => hsender⟩

/-! ### What keeps the queue lawful -/

/-- From s to t the queue is kept lawful. -/
def State.QueueKept (s t : State) : Prop := QueueLaw s → QueueLaw t

theorem State.QueueKept.refl (s : State) : s.QueueKept s := id

theorem State.QueueKept.trans {s t u : State} (h : s.QueueKept t) (k : t.QueueKept u) : s.QueueKept u := k ∘ h

/-- The law reads the line alone. -/
theorem State.QueueKept.of_line {s t : State} (h : t.line = s.line) : s.QueueKept t := fun hs => by
  rwa [QueueLaw, h]

theorem State.enqueue_queueKept (s : State) (f : Frame) : s.QueueKept (s.enqueue f) := fun h => by
  have hoffer := offerFrame_lawful f (s.line, s.conditions) h
  show (startIfFree s (offerFrame f (s.line, s.conditions))).1.Lawful
  unfold startIfFree
  split
  · rename_i hfree
    exact startAttempt_lawful s _ hoffer (by rw [hfree]; nofun)
  · exact hoffer

theorem State.withdrawClaim_queueKept (s : State) (id : LetterId) : s.QueueKept (s.withdrawClaim id) :=
  fun h => Line.Lawful.sublist h _ List.filter_sublist

theorem State.emptied_queueKept (s : State) : s.QueueKept s.emptied :=
  fun h => Line.Lawful.sublist h _ List.filter_sublist

end Sys2Proof.Machine
end

section
/-! PROOF. What the blocks do with letters keeps the transmit queue lawful: it reaches the line only by enqueuing a frame and
by withdrawing a CLAIM. -/

namespace Sys2Proof.Machine

/-! ### Release and re-judgement (R110 to R113) -/

theorem State.releaseClaim_queueKept (s : State) (id : LetterId) (k : Fin 4) (r : ReleaseReason) :
    s.QueueKept (s.releaseClaim id k r) := by
  unfold State.releaseClaim
  dsimp only
  split
  · exact State.withdrawClaim_queueKept (s.modifyEntry id _) id
  · exact State.enqueue_queueKept (s.modifyEntry id _) _

theorem State.rejudge_queueKept (s : State) (id : LetterId) : s.QueueKept (s.rejudge id) := by
  unfold State.rejudge
  split
  · split
    · exact s.releaseClaim_queueKept id _ _
    · exact .refl s
  · exact .refl s

theorem State.swapCancels_queueKept (s : State) (k : Fin 4) (ops : List GateOp) :
    s.QueueKept (ops.foldl (fun u o => u.swapCancel k o) s) := by
  induction ops generalizing s with
  | nil => exact .refl s
  | cons o rest ih =>
    have hcancel : s.QueueKept (s.swapCancel k o) := by
      unfold State.swapCancel
      split
      · exact s.releaseClaim_queueKept o.id k _
      · exact .refl s
    exact hcancel.trans (ih _)

/-! ### Leaving the table (R74, R77, R78, R131, R134 to R136) -/

theorem State.retire_queueKept (s : State) (e : Entry) : s.QueueKept (s.retire e) := by
  unfold State.retire
  dsimp only
  split
  · exact State.enqueue_queueKept (s.removeEntry e.id) _
  · exact .of_line rfl

theorem State.retireIfDue_queueKept (s : State) (id : LetterId) : s.QueueKept (s.retireIfDue id) := by
  unfold State.retireIfDue
  split
  · split
    · exact s.retire_queueKept _
    · exact .refl s
  · exact .refl s

theorem State.expire_queueKept (s : State) (e : Entry) : s.QueueKept (s.expire e) := by
  unfold State.expire
  dsimp only
  split
  · exact .of_line rfl
  · exact State.enqueue_queueKept (s.removeEntry e.id) _

theorem State.miss_queueKept (s : State) (k : Fin 4) (o : GateOp) : s.QueueKept (s.miss k o) := by
  unfold State.miss
  split
  · exact .of_line rfl
  · have hcounted (t : State) : t.QueueKept ((t.countMiss k).dropOp k o) := .of_line rfl
    exact ((s.releaseClaim_queueKept o.id k .miss).trans (hcounted _)).trans (State.retireIfDue_queueKept _ o.id)

theorem State.confirm_queueKept (s : State) (k : Fin 4) (o : GateOp) : s.QueueKept (s.confirm k o) := by
  have hconfirmed (p : Pocket) : s.QueueKept (s.setPocket k p) := .of_line rfl
  have hcounted (t : State) : t.QueueKept ((t.count fun c => { c with diverted := satInc c.diverted }).removeEntry o.id) :=
    .of_line rfl
  exact ((hconfirmed _).trans (State.enqueue_queueKept _ _)).trans (hcounted _)

/-! ### Reads and the close of a window (R46, R81 to R92) -/

theorem State.applyRead_queueKept (s : State) (id : LetterId) (f : Identity → Identity) :
    s.QueueKept (s.applyRead id f) := by
  unfold State.applyRead
  split
  · exact .refl s
  · dsimp only
    split
    · exact .of_line rfl
    · exact State.rejudge_queueKept (s.modifyEntry id _) id

theorem State.closeWindow_queueKept (s : State) : s.QueueKept s.closeWindow := by
  unfold State.closeWindow
  split
  · exact .refl s
  · exact (s.applyRead_queueKept _ _).trans (State.enqueue_queueKept _ _)

/-! ### The photocell (R60 to R73) -/

theorem State.leadingEdge_queueKept (s : State) : s.QueueKept s.leadingEdge := by
  have hline : s.leadingEdge.line = s.closeWindow.line := by
    unfold State.leadingEdge
    dsimp only
    split
    · rfl
    · exact State.orphanArrival_line _
  exact s.closeWindow_queueKept.trans (.of_line hline)

theorem State.fragment_queueKept (s : State) (e : Entry) : s.QueueKept (s.fragment e) := by
  unfold State.fragment
  split
  · exact .of_line rfl
  · dsimp only
    split
    · exact State.expire_queueKept ((s.discardWindowOf e.id).replaceEntry _) _
    · exact .of_line rfl

theorem State.setClosePoint_queueKept (s : State) (id : LetterId) : s.QueueKept (s.setClosePoint id) := by
  unfold State.setClosePoint
  split
  · rename_i r _
    split
    · have hset (x : Option Pos) : s.QueueKept { s with scan := some { r with closePoint := x } } := .of_line rfl
      dsimp only
      split
      · exact (hset _).trans (State.closeWindow_queueKept _)
      · exact hset _
    · exact .refl s
  · exact .refl s

theorem State.queueSight_queueKept (s : State) (e : Entry) (a : Pos) (l : Word) : s.QueueKept (s.queueSight e a l) := by
  unfold State.queueSight
  split
  · exact s.enqueue_queueKept _
  · exact .refl s

theorem State.letterPassed_queueKept (s : State) (e : Entry) (a : Pos) (l : Word) :
    s.QueueKept (s.letterPassed e a l) := by
  unfold State.letterPassed
  dsimp only
  have hpassed : s.QueueKept (s.modifyEntry e.id (passedEntry s.tach.count l s.cfg.lenMax s.cfg.retire)) := .of_line rfl
  have hgiven (t : State) : t.QueueKept (t.giveTrailing e.id s.tach.count) := .of_line rfl
  have htold := (hpassed.trans (State.queueSight_queueKept _ e a l)).trans (hgiven _)
  refine htold.trans (.trans ?_ ((State.setClosePoint_queueKept _ e.id).trans (State.retireIfDue_queueKept _ e.id)))
  split
  · exact .refl _
  · exact State.rejudge_queueKept _ e.id

theorem State.shortBlockage_queueKept (s : State) (e : Entry) (a : Pos) (l : Word) :
    s.QueueKept (s.shortBlockage e a l) := by
  unfold State.shortBlockage
  split
  · rename_i k _ o _ _
    split
    · have hcancelled (t : State) : t.QueueKept (t.cancelOp k e.id) := .of_line rfl
      exact ((s.releaseClaim_queueKept e.id k .rejudged).trans (hcancelled _)).trans (State.fragment_queueKept _ _)
    · exact s.letterPassed_queueKept e a l
  · exact s.fragment_queueKept e

theorem State.trailingEdge_queueKept (s : State) : s.QueueKept s.trailingEdge := by
  unfold State.trailingEdge
  dsimp only
  split
  · exact .of_line rfl
  · exact .of_line rfl
  · exact .of_line rfl
  · split
    · exact .of_line rfl
    · split
      · exact State.shortBlockage_queueKept { s with blockage := .none } _ _ _
      · exact State.letterPassed_queueKept { s with blockage := .none } _ _ _

/-! ### The decision (R101 to R104) -/

theorem State.decideEntry_queueKept (s : State) (e : Entry) : s.QueueKept (s.decideEntry e) := by
  have hclaim (t : State) (k : Fin 4) : t.QueueKept (t.claimPocket k e) :=
    State.enqueue_queueKept (t.modifyEntry e.id _) (.claim e.id k)
  unfold State.decideEntry
  dsimp only
  split
  · split
    · exact hclaim (s.modifyEntry e.id _) _
    · exact .of_line rfl
  · exact .of_line rfl

/-! ### Received frames at their owning blocks -/

theorem State.takeClaim_queueKept (s : State) (h : Header) (id : LetterId) (pocket : Byte) :
    s.QueueKept (s.takeClaim h id pocket) := by
  have hown : s.QueueKept (s.claimAgainstOwn id h.station pocket) := by
    unfold State.claimAgainstOwn
    split
    · exact .refl s
    · split
      · exact State.withdrawClaim_queueKept ((s.cancelOp _ id).modifyEntry id _) id
      · exact .of_line rfl
  unfold State.takeClaim
  split
  · split
    · exact .refl s
    · split
      · exact .of_line rfl
      · exact hown
      · exact .refl s
      · exact .refl s
  · exact .refl s

theorem State.takeRelease_line (s : State) (h : Header) (id : LetterId) (pocket : Byte) :
    (s.takeRelease h id pocket).line = s.line := by
  unfold State.takeRelease
  split
  · split
    · rfl
    · split <;> rfl
  · rfl

theorem State.takeDiverted_queueKept (s : State) (h : Header) (id : LetterId) : s.QueueKept (s.takeDiverted h id) := by
  unfold State.takeDiverted
  split
  · split
    · exact .refl s
    · split
      · exact s.withdrawClaim_queueKept id
      · split
        · exact State.withdrawClaim_queueKept (s.cancelOp _ id) id
        · exact .of_line rfl
  · exact .refl s

theorem State.takeSight_line (s : State) (h : Header) (id : LetterId) (age length : Word) :
    (s.takeSight h id age length).line = s.line := by
  unfold State.takeSight
  split
  · dsimp only
    split
    · rfl
    · split
      · rfl
      · split <;> rfl
  · rfl

theorem State.takeRead_queueKept (s : State) (h : Header) (id : LetterId) (outcome quality : Byte) (code : Option Code) :
    s.QueueKept (s.takeRead h id outcome quality code) := by
  unfold State.takeRead
  split
  · split
    · exact s.applyRead_queueKept id _
    · exact .refl s
  · exact .refl s

theorem State.takeLost_line (s : State) (h : Header) (id : LetterId) : (s.takeLost h id).line = s.line := by
  unfold State.takeLost
  split
  · split
    · rfl
    · split <;> rfl
  · rfl

theorem State.enterJammed_queueKept (s : State) (jam : Option JamReason) : s.QueueKept (s.enterJammed jam) := by
  rw [State.enterJammed_eq]
  cases jam with
  | none => exact s.emptied_queueKept
  | some r => exact s.emptied_queueKept.trans (State.enqueue_queueKept _ _)

theorem State.takeJam_queueKept (s : State) : s.QueueKept s.takeJam := by
  unfold State.takeJam
  split
  · exact s.enterJammed_queueKept _
  · exact .refl s

theorem State.takeClear_queueKept (s : State) : s.QueueKept s.takeClear := by
  unfold State.takeClear
  split
  · split
    · exact s.enqueue_queueKept _
    · split
      · exact .of_line rfl
      · exact s.enqueue_queueKept _
  · exact .refl s

theorem State.takePoll_queueKept (s : State) (target : Byte) : s.QueueKept (s.takePoll target) := by
  unfold State.takePoll
  split
  · exact s.enqueue_queueKept _
  · exact .refl s

end Sys2Proof.Machine
end

section
/-! PROOF. Every step keeps the transmit queue lawful, row by row. -/

namespace Sys2Proof.Machine

/-- Whatever the command answers, it leads from s to a state that keeps the queue lawful. -/
def State.KeepsQueue (s : State) (o : Host.Outcome State Fault Refusal) : Prop := ∀ t, o = .next t → s.QueueKept t

theorem State.KeepsQueue.next {s t : State} (h : s.QueueKept t) : s.KeepsQueue (.next t) := fun _ hu => by
  cases hu
  exact h

theorem State.KeepsQueue.same (s : State) : s.KeepsQueue (.next s) := .next (.refl s)

/-- A command that acts where its event can happen, and otherwise leaves the state as it is (log 4). -/
theorem State.KeepsQueue.guarded {s t : State} {c : Prop} [Decidable c] (h : s.QueueKept t) :
    s.KeepsQueue (if c then .next t else .next s) := by
  split
  · exact .next h
  · exact .same s

/-- The usual case: the event does not reach the line. -/
theorem State.KeepsQueue.guardedLine {s t : State} {c : Prop} [Decidable c] (h : t.line = s.line) :
    s.KeepsQueue (if c then .next t else .next s) :=
  .guarded (.of_line h)

/-! ### The count, the video and the photocell -/

theorem execTachEdge_keepsQueue (s : State) : s.KeepsQueue (execTachEdge s) := by
  unfold execTachEdge
  split
  · exact .same s
  · exact .next (.of_line rfl)

theorem execExpiryPoint_keepsQueue (s : State) : s.KeepsQueue (execExpiryPoint s) := by
  unfold execExpiryPoint
  split
  · exact .guarded (s.expire_queueKept _)
  · exact .same s

theorem execRetirementPoint_keepsQueue (s : State) : s.KeepsQueue (execRetirementPoint s) := by
  unfold execRetirementPoint
  split
  · exact .guarded (s.retire_queueKept _)
  · exact .same s

theorem execScanClosePoint_keepsQueue (s : State) : s.KeepsQueue (execScanClosePoint s) := by
  unfold execScanClosePoint
  split
  · exact .guarded s.closeWindow_queueKept
  · exact .same s

theorem execDecisionPoint_keepsQueue (s : State) : s.KeepsQueue (execDecisionPoint s) := by
  unfold execDecisionPoint
  split
  · exact .guarded (s.decideEntry_queueKept _)
  · exact .same s

theorem execRunEndByQuiet_keepsQueue (high : Bool) (s : State) : s.KeepsQueue (execRunEndByQuiet high s) := by
  unfold execRunEndByQuiet
  split
  · split
    · exact .next (.of_line rfl)
    · exact .same s
  · exact .same s

theorem execSweepEdge_keepsQueue (s : State) : s.KeepsQueue (execSweepEdge s) := by
  unfold execSweepEdge
  split
  · exact .same s
  · exact .next (.of_line rfl)

theorem execPcellLeadingEdge_keepsQueue (s : State) : s.KeepsQueue (execPcellLeadingEdge s) := by
  have hlevel : s.QueueKept { s with pins := { s.pins with pcellBlocked := true } } := .of_line rfl
  unfold execPcellLeadingEdge
  dsimp only
  split
  · exact .same s
  · split
    · exact .next (hlevel.trans (State.leadingEdge_queueKept _))
    · exact .next hlevel

theorem execPcellTrailingEdge_keepsQueue (s : State) : s.KeepsQueue (execPcellTrailingEdge s) := by
  have hlevel : s.QueueKept { s with pins := { s.pins with pcellBlocked := false } } := .of_line rfl
  unfold execPcellTrailingEdge
  dsimp only
  split
  · split
    · exact .next (hlevel.trans (State.trailingEdge_queueKept _))
    · exact .next hlevel
  · exact .same s

/-! ### The gates and the inputs of a pocket -/

theorem execPullInExpiry_keepsQueue (k : Fin 4) (s : State) : s.KeepsQueue (execPullInExpiry k s) := by
  unfold execPullInExpiry
  dsimp only
  split
  · exact .guardedLine rfl
  · exact .same s

theorem execChopPartExpiry_keepsQueue (k : Fin 4) (s : State) : s.KeepsQueue (execChopPartExpiry k s) := by
  unfold execChopPartExpiry
  dsimp only
  split
  · exact .guardedLine rfl
  · exact .same s

theorem execReleasePoint_keepsQueue (k : Fin 4) (s : State) : s.KeepsQueue (execReleasePoint k s) := by
  have hreleased (p : Pocket) : s.QueueKept (s.setPocket k p) := .of_line rfl
  unfold execReleasePoint
  dsimp only
  split
  · exact .same s
  · split
    · exact .next ((hreleased _).trans (State.miss_queueKept _ k _))
    · exact .next (hreleased _)

theorem execConfirmClose_keepsQueue (k : Fin 4) (s : State) : s.KeepsQueue (execConfirmClose k s) := by
  unfold execConfirmClose
  split
  · exact .next (s.miss_queueKept k _)
  · exact .same s

theorem execPentryEdge_keepsQueue (k : Fin 4) (s : State) : s.KeepsQueue (execPentryEdge k s) := by
  have hcounted (p : Pocket) : s.QueueKept ((s.setPocket k p).formPocket k) := .of_line rfl
  have hstray (t : State) : t.QueueKept (t.latch .divertAnomaly) := .of_line rfl
  unfold execPentryEdge
  dsimp only
  split
  · split
    · exact .next ((hcounted _).trans (State.confirm_queueKept _ k _))
    · exact .next ((hcounted _).trans (hstray _))
  · exact .same s

theorem execPfullChange_keepsQueue (k : Fin 4) (active : Bool) (s : State) : s.KeepsQueue (execPfullChange k active s) := by
  unfold execPfullChange
  dsimp only
  split
  · exact .same s
  · split <;> exact .next (.of_line rfl)

theorem execPswapActive_keepsQueue (k : Fin 4) (s : State) : s.KeepsQueue (execPswapActive k s) := by
  have hlevel : s.QueueKept { s with pins := { s.pins with pswap := s.pins.pswap.set k true } } := .of_line rfl
  have hformed (t : State) : t.QueueKept (t.formPocket k) := .of_line rfl
  unfold execPswapActive
  dsimp only
  split
  · exact .same s
  · split
    · exact .next ((hlevel.trans (hformed _)).trans (State.swapCancels_queueKept _ k _))
    · exact .next hlevel

theorem execPswapInactive_keepsQueue (k : Fin 4) (s : State) : s.KeepsQueue (execPswapInactive k s) := by
  unfold execPswapInactive
  dsimp only
  split
  · split <;> exact .next (.of_line rfl)
  · exact .same s

/-! ### The line's events -/

theorem QueueLaw.orderly {s : State} (h : QueueLaw s) : Orderly s.line.queue := Line.Lawful.orderly h

/-- The line turns from a state in which the station sends nothing. -/
theorem State.QueueKept.of_queue {s t : State} (hq : t.line.queue = s.line.queue) (hl : s.line.state ≠ .inFrame .sender) :
    s.QueueKept t := fun h =>
  Line.lawful_of_grounded (hq ▸ h.orderly) (hq ▸ Line.Lawful.grounded h hl)

theorem execBusFree_keepsQueue (s : State) : s.KeepsQueue (execBusFree s) := by
  unfold execBusFree
  dsimp only
  split
  · rename_i hw
    have hfree : s.QueueKept { s with line := { s.line with state := .free, ackDriven := false } } :=
      .of_queue rfl (by rw [hw]; nofun)
    exact .next fun h => startAttempt_lawful s (_, s.conditions) (hfree h) nofun
  · exact .same s

theorem execStartOfFrame_keepsQueue (highCells : Nat) (s : State) : s.KeepsQueue (execStartOfFrame highCells s) := by
  unfold execStartOfFrame
  split
  · rename_i ha
    exact .next (.of_queue rfl fun h => by simp [startAccepted, h] at ha)
  · exact .same s

theorem grounded_of_frameInFlight_none {l : Line} (h : frameInFlight l = none) : Grounded l.queue := fun q hq => by
  simpa using List.find?_eq_none.mp h q hq

/-- At most one frame is in flight, so the one found is the one that is. -/
theorem Orderly.eq_of_inFlight {l : Line} {f q : QueuedFrame} (h : Orderly l.queue) (hf : frameInFlight l = some f)
    (hq : q ∈ l.queue) (hflight : q.inFlight = true) : q = f := by
  have hone := h.flights
  rw [List.countP_eq_length_filter] at hone
  have hfirst : (l.queue.filter (fun x => x.inFlight)).head? = some f := List.head?_filter.trans hf
  have hmem : q ∈ l.queue.filter (fun x => x.inFlight) := List.mem_filter.mpr ⟨hq, hflight⟩
  obtain ⟨rest, hrest⟩ := List.head?_eq_some_iff.mp hfirst
  rw [hrest] at hone hmem
  obtain rfl : rest = [] := List.eq_nil_of_length_eq_zero (by simpa using hone)
  exact List.mem_singleton.mp hmem

/-- The attempt is over and its frame leaves the queue. -/
theorem dropInFlight_lawful (l : Line) (h : Orderly l.queue) : (dropInFlight l).Lawful :=
  Line.lawful_of_grounded (h.sublist List.filter_sublist) fun q hq => by simpa using (List.mem_filter.mp hq).2

/-- The attempt is over and its frame stays. -/
theorem keepInFlight_lawful (l : Line) (f : QueuedFrame → QueuedFrame) (h : Orderly l.queue)
    (hframe : ∀ q, (f q).frame = q.frame) (hattempts : ∀ q ∈ l.queue, q.inFlight = true → (f q).attempts ≤ 2) :
    (keepInFlight f l).Lawful := by
  refine Line.lawful_of_grounded (h.map _ (fun q => ?_) (fun q hq => ?_) (fun q hq => ?_)) ?_
  · split
    · exact hframe q
    · rfl
  · split
    · rename_i hflight
      exact hattempts q hq hflight
    · exact h.attempts q hq
  · split at hq
    · cases hq
    · exact hq
  · refine List.forall_mem_map.mpr fun q hq => ?_
    split
    · rfl
    · rename_i hflight
      simpa using hflight

/-- A discard reaches no queue. -/
theorem countDiscard_lawful (w : Line × Conditions) (h : w.1.Lawful) : (countDiscard w).1.Lawful := h

theorem State.joinEnded_queueKept (s : State) : s.QueueKept s.joinEnded := by
  unfold State.joinEnded
  split
  · exact .of_line rfl
  · exact .refl s

theorem State.loseArbitration_lawful (s : State) (h : Orderly s.line.queue) : QueueLaw s.loseArbitration := by
  unfold State.loseArbitration
  split
  · rename_i hf
    exact Line.lawful_of_grounded h (grounded_of_frameInFlight_none hf)
  · split
    · exact countDiscard_lawful (_, s.conditions) (dropInFlight_lawful s.line h)
    · exact keepInFlight_lawful s.line id h (fun _ => rfl) fun q hq _ => h.attempts q hq

theorem State.failAttempt_lawful (s : State) (h : Orderly s.line.queue) : QueueLaw s.failAttempt := by
  unfold State.failAttempt
  split
  · rename_i hf
    exact Line.lawful_of_grounded h (grounded_of_frameInFlight_none hf)
  · rename_i f hf
    have hdropped (c : Conditions) := countDiscard_lawful (dropInFlight s.line, c) (dropInFlight_lawful s.line h)
    split
    · exact keepInFlight_lawful s.line _ h (fun _ => rfl) fun _ _ _ => Nat.zero_le _
    · split
      · dsimp only
        split
        · exact State.joinEnded_queueKept _ (hdropped _)
        · exact hdropped _
      · rename_i hcount
        split
        · exact hdropped _
        · refine keepInFlight_lawful s.line _ h (fun _ => rfl) fun q hq hflight => ?_
          obtain rfl := h.eq_of_inFlight hf hq hflight
          exact Nat.lt_of_not_le hcount

theorem State.ackAttempt_lawful (s : State) (h : Orderly s.line.queue) : QueueLaw s.ackAttempt := by
  have hdropped (c : Conditions) : QueueLaw { s with line := dropInFlight s.line, conditions := c } :=
    dropInFlight_lawful s.line h
  unfold State.ackAttempt
  dsimp only
  split
  · exact hdropped _
  · split
    · split
      · exact State.enqueue_queueKept _ _ (hdropped _)
      · exact hdropped _
    · split
      · exact State.joinEnded_queueKept _ (hdropped _)
      · exact hdropped _

theorem execArbitrationLost_keepsQueue (s : State) : s.KeepsQueue (execArbitrationLost s) :=
  .guarded fun h => State.loseArbitration_lawful _ h.orderly

theorem execBitError_keepsQueue (s : State) : s.KeepsQueue (execBitError s) :=
  .guarded fun h => State.failAttempt_lawful _ h.orderly

theorem execAttemptEnd_keepsQueue (acked : Bool) (s : State) : s.KeepsQueue (execAttemptEnd acked s) := by
  unfold execAttemptEnd
  dsimp only
  split
  · split
    · exact .next fun h => State.ackAttempt_lawful _ h.orderly
    · exact .next fun h => State.failAttempt_lawful _ h.orderly
  · exact .same s

/-- The SIGHT in flight whose stale point is reached is marked where it is (R156). -/
theorem markStale_lawful (l : Line) (p : QueuedFrame → Bool) (q : QueuedFrame) (hq : l.queue.find? p = some q)
    (h : l.Lawful) :
    Line.Lawful { l with queue := modifyFirst p (fun x => { x with staleReached := true }) l.queue } := by
  obtain ⟨hpq, before, after, hsplit, hbefore⟩ := List.find?_eq_some_iff_append.mp hq
  have hmarked := modifyFirst_first p (fun x => { x with staleReached := true }) before after q
    (fun x hx => by simpa using hbefore x hx) hpq
  rw [Line.lawful_iff, hsplit] at h
  rw [Line.lawful_iff, hsplit, hmarked]
  refine ⟨h.1.replace rfl rfl rfl, fun hn => h.2 fun hg => hn ?_⟩
  simpa only [Grounded, List.forall_mem_append, List.forall_mem_cons] using hg

theorem execSightStalePoint_keepsQueue (s : State) : s.KeepsQueue (execSightStalePoint s) := by
  unfold execSightStalePoint
  split
  · exact .same s
  · rename_i q hq
    dsimp only
    split
    · exact .next (markStale_lawful s.line _ q hq)
    · exact .next fun h => Line.Lawful.sublist h _ List.eraseP_sublist

theorem execBrokenFrame_keepsQueue (cells : List Bool) (s : State) : s.KeepsQueue (execBrokenFrame cells s) := by
  unfold execBrokenFrame
  split
  · split
    · rename_i h
      have hr : s.line.state = .inFrame .receiver := by simpa [State.receiving] using h
      exact .next (.of_queue rfl (by rw [hr]; nofun))
    · exact .same s
  · exact .same s

/-! ### Received frames -/

theorem State.acknowledge_queueKept (s : State) (h : s.line.state = .inFrame .receiver) : s.QueueKept s.acknowledge :=
  .of_queue rfl (by rw [h]; nofun)

theorem State.testSender_queueKept (s : State) (h : Header) : s.QueueKept (s.testSender h) := .of_line rfl

theorem State.receiveOrHandOn_queueKept (s : State) (h : Header) (owner : State → State)
    (howner : ∀ t : State, t.QueueKept (owner t)) : s.QueueKept (s.receiveOrHandOn h owner) := by
  rcases receiveOrHandOn_cases s h owner with ⟨heq, -⟩ | ⟨hr, heq, -⟩ | ⟨t, ⟨-, -, hfrom⟩, heq⟩
  · rw [heq]
    exact .refl s
  · rw [heq]
    exact (s.acknowledge_queueKept hr).trans (State.testSender_queueKept _ h)
  · rw [heq]
    rcases hfrom with ⟨hr, rfl⟩ | ⟨-, rfl⟩
    · exact (s.acknowledge_queueKept hr).trans (howner _)
    · exact howner _

theorem State.receive_queueKept (s : State) (h : Header) (owner : State → State)
    (howner : ∀ t : State, t.QueueKept (owner t)) : s.QueueKept (s.receive h owner) := by
  unfold State.receive
  split
  · rename_i hr
    have htested := (s.acknowledge_queueKept (by simpa [State.receiving] using hr)).trans
      (State.testSender_queueKept s.acknowledge h)
    dsimp only
    split
    · exact htested
    · exact htested.trans (howner _)
  · exact .refl s

/-! ### STOP, RESUME, resets and the configuration read -/

theorem execStopPress_keepsQueue (s : State) : s.KeepsQueue (execStopPress s) := by
  have hlevel (b : Bool) : s.QueueKept { s with pins := { s.pins with stopHigh := false }, stopReleased := b } :=
    .of_line rfl
  unfold execStopPress
  dsimp only
  split
  · split
    · split
      · exact .next ((hlevel false).trans (State.enterJammed_queueKept _ _))
      · exact .next (hlevel false)
    · exact .next (hlevel s.stopReleased)
  · exact .same s

theorem execStopRelease_keepsQueue (s : State) : s.KeepsQueue (execStopRelease s) := by
  unfold execStopRelease
  dsimp only
  split
  · exact .same s
  · split <;> exact .next (.of_line rfl)

/-- An empty queue is lawful in every state of the line. -/
theorem State.QueueKept.of_empty {s t : State} (h : t.line.queue = []) : s.QueueKept t := fun _ =>
  Line.lawful_of_grounded (h ▸ .nil) (h ▸ nofun)

theorem execResetEntry_keepsQueue (signal : ResetSignal) (s : State) : s.KeepsQueue (execResetEntry signal s) := by
  unfold execResetEntry
  cases signal
  · exact .guarded (.of_empty rfl)
  · exact .guarded (.of_empty rfl)

theorem State.enterJoining_queueKept (s t : State) : s.QueueKept t.enterJoining :=
  (State.QueueKept.of_empty (s := s) (t := t.joining) rfl).trans (State.enqueue_queueKept _ _)

theorem execResetRelease_keepsQueue (straps : Straps) (retain : Bool) (s : State) :
    s.KeepsQueue (execResetRelease straps retain s) := by
  unfold execResetRelease
  split
  · split
    · exact .next (.of_empty rfl)
    · exact .next (.of_empty rfl)
    · exact .next (s.enterJoining_queueKept _)
  · exact .same s

theorem execHeaderByteCheck_keepsQueue (byte : Byte) (s : State) : s.KeepsQueue (execHeaderByteCheck byte s) := by
  unfold execHeaderByteCheck
  split
  · split <;> exact .next (.of_line rfl)
  · exact .same s

theorem execConfigReadComplete_keepsQueue (rest : List Byte) (s : State) : s.KeepsQueue (execConfigReadComplete rest s) := by
  unfold execConfigReadComplete
  dsimp only
  split
  · split
    · exact .next (s.enterJoining_queueKept (s.loaded _ _))
    · exact .next (.of_line rfl)
  · exact .same s

/-! ### Every step -/

/-- Each command keeps the queue lawful: by the lemma of its row, and for a received frame by what its owning block does. -/
theorem exec_keepsQueue (c : Instr) (s : State) : s.KeepsQueue (exec c s) := by
  have hreceived (h : Header) (owner : State → State) (howner : ∀ t : State, t.QueueKept (owner t)) :
      s.KeepsQueue (.next (s.receiveOrHandOn h owner)) := .next (s.receiveOrHandOn_queueKept h owner howner)
  cases c
  case tachEdge => exact execTachEdge_keepsQueue s
  case tachStall => exact .guardedLine rfl
  case noiseFilterAccept high => exact .guardedLine rfl
  case quietSeen high => exact .guardedLine rfl
  case runEndByQuiet high => exact execRunEndByQuiet_keepsQueue high s
  case sweepEdge => exact execSweepEdge_keepsQueue s
  case pcellLeadingEdge => exact execPcellLeadingEdge_keepsQueue s
  case pcellTrailingEdge => exact execPcellTrailingEdge_keepsQueue s
  case jamPoint => exact .guarded (s.enterJammed_queueKept _)
  case expiryPoint => exact execExpiryPoint_keepsQueue s
  case retirementPoint => exact execRetirementPoint_keepsQueue s
  case scanClosePoint => exact execScanClosePoint_keepsQueue s
  case decisionPoint => exact execDecisionPoint_keepsQueue s
  case firePoint k => exact .guardedLine rfl
  case pullInExpiry k => exact execPullInExpiry_keepsQueue k s
  case chopPartExpiry k => exact execChopPartExpiry_keepsQueue k s
  case releasePoint k => exact execReleasePoint_keepsQueue k s
  case confirmClose k => exact execConfirmClose_keepsQueue k s
  case pentryEdge k => exact execPentryEdge_keepsQueue k s
  case pfullChange k active => exact execPfullChange_keepsQueue k active s
  case pswapActive k => exact execPswapActive_keepsQueue k s
  case pswapInactive k => exact execPswapInactive_keepsQueue k s
  case busFree => exact execBusFree_keepsQueue s
  case startOfFrame highCells => exact execStartOfFrame_keepsQueue highCells s
  case arbitrationLost => exact execArbitrationLost_keepsQueue s
  case bitError => exact execBitError_keepsQueue s
  case attemptEnd acked => exact execAttemptEnd_keepsQueue acked s
  case sightStalePoint => exact execSightStalePoint_keepsQueue s
  case brokenFrame cells => exact execBrokenFrame_keepsQueue cells s
  case jamReceived h reason => exact hreceived h _ State.takeJam_queueKept
  case clearReceived h => exact hreceived h _ State.takeClear_queueKept
  case claimReceived h id pocket => exact hreceived h _ fun t => t.takeClaim_queueKept h id pocket
  case releaseReceived h id pocket reason =>
    exact hreceived h _ fun t => .of_line (t.takeRelease_line h id pocket)
  case divertedReceived h id pocket tally => exact hreceived h _ fun t => t.takeDiverted_queueKept h id
  case sightReceived h id age length =>
    exact .next (s.receive_queueKept h _ fun t => .of_line (t.takeSight_line h id age length))
  case readReceived h id outcome quality sweeps code =>
    exact hreceived h _ fun t => t.takeRead_queueKept h id outcome quality code
  case lostReceived h id => exact hreceived h _ fun t => .of_line (t.takeLost_line h id)
  case pollReceived h target => exact hreceived h _ fun t => t.takePoll_queueKept target
  case joinReceived h pockets crc => exact .next (s.receive_queueKept h _ .refl)
  case ignoredFrameReceived h kind body => exact .guarded (s.receive_queueKept h _ .refl)
  case stopPress => exact execStopPress_keepsQueue s
  case stopRelease => exact execStopRelease_keepsQueue s
  case resumePress => exact .guarded (s.enqueue_queueKept .clear)
  case resetEntry signal => exact execResetEntry_keepsQueue signal s
  case powerOkRiseInReset straps => exact .guardedLine rfl
  case resetRelease straps retain => exact execResetRelease_keepsQueue straps retain s
  case headerByteCheck byte => exact execHeaderByteCheck_keepsQueue byte s
  case configReadComplete rest => exact execConfigReadComplete_keepsQueue rest s
  case videoSample high => exact .guardedLine rfl

theorem State.tick_queueKept (s : State) : s.QueueKept s.tick := by
  unfold State.tick
  split
  · exact .refl s
  · exact .of_line rfl

theorem step_keepsQueue (s : State) : s.KeepsQueue (step s) := by
  cases hp : s.pending with
  | nil =>
    rw [step_of_idle s hp]
    exact .next s.tick_queueKept
  | cons c cs =>
    rw [step_of_pending s c cs hp]
    have htaken : s.QueueKept { s with pending := cs } := .of_line rfl
    exact fun t ht => htaken.trans (exec_keepsQueue c _ t ht)

/-- Settles O56: each row keeps the queue lawful, and so does a microsecond of the timebase. -/
theorem stepKeepsQueueLawful : Obligations.StepKeepsQueueLawful := by
  unfold Obligations.StepKeepsQueueLawful
  exact step_keepsQueue

end Sys2Proof.Machine
end

section
/-! PROOF. The start of an attempt (R141, R142, R147, R187), and where an enqueued frame goes (R153 to R156). -/

namespace Sys2Proof.Machine

/-! ### The start of an attempt -/

theorem isStatus_iff (f : Frame) : isStatus f = true ↔ f = .status := by
  cases f <;> simp [isStatus]

theorem isJoin_iff (f : Frame) : isJoin f = true ↔ ∃ n crc, f = .join n crc := by
  cases f <;> simp [isJoin]

theorem ageAt_of_not_sight (count : Pos) (f : Frame) (h : ∀ id a len, f ≠ .sight id a len) : ageAt count f = 0 := by
  cases f
  case sight id a len => exact absurd rfl (h id a len)
  all_goals rfl

/-- A frame is no stale SIGHT (R147). -/
theorem ageAt_le (count : Pos) (f : Frame) (h : ∀ id a len, f = .sight id a len → (count - a).toNat ≤ 16383) :
    (ageAt count f).toNat ≤ 16383 := by
  cases f
  case sight id a len => exact h id a len rfl
  all_goals exact Nat.zero_le _

/-- The count of a discard, in the two parts of the state that it changes (R152). -/
theorem State.withDiscard_eq (s : State) (l : Line) (c : Conditions) :
    ({ s with line := (countDiscard (l, c)).1, conditions := (countDiscard (l, c)).2 } : State) =
      State.discardCounted { s with line := l, conditions := c } := by
  simp only [countDiscard, State.discardCounted, satInc_byte]

/-- The conditions with which an attempt of the frame goes on (R187). -/
def Conditions.atStartOf (c : Conditions) (f : Frame) : Conditions := if f = .status then c.markReported else c

theorem startAttempt_of_empty (s : State) (w : Line × Conditions) (h : w.1.queue = []) : startAttempt s w = w := by
  simp only [startAttempt, h]

theorem startAttempt_of_fresh (s : State) (w : Line × Conditions) (f : QueuedFrame) (rest : List QueuedFrame)
    (h : w.1.queue = f :: rest)
    (hfresh : ∀ id a len, f.frame = .sight id a len → (s.tach.count - a).toNat ≤ 16383) :
    startAttempt s w =
      ({ w.1 with
          state := .inFrame .sender, sofTach := s.tach.count, ackDriven := false,
          sending := attemptBytes s (w.2.atStartOf f.frame) (ageAt s.tach.count f.frame) w.1.discards f.frame,
          queue := { f with inFlight := true } :: rest },
        w.2.atStartOf f.frame) := by
  have hage := ageAt_le s.tach.count f.frame hfresh
  simp only [startAttempt, h, Nat.not_lt.mpr hage, if_false, isStatus_iff, Conditions.atStartOf]

theorem startAttempt_of_stale (s : State) (w : Line × Conditions) (f : QueuedFrame) (rest : List QueuedFrame)
    (h : w.1.queue = f :: rest) (id : LetterId) (a : Pos) (len : Word) (hf : f.frame = .sight id a len)
    (hstale : 16383 < (s.tach.count - a).toNat) :
    startAttempt s w =
      countDiscard
        ({ w.1 with
            state := .inFrame .receiver, sofTach := s.tach.count, ackDriven := false, sending := [], queue := rest },
          w.2) := by
  have hage : 16383 < (ageAt s.tach.count f.frame).toNat := by rwa [hf]
  simp only [startAttempt, h, hage, if_true]

/-- Settles O34: by what the head of the queue is. -/
theorem busFreeStartsAttempt : Obligations.BusFreeStartsAttempt := by
  unfold Obligations.BusFreeStartsAttempt
  intro s hline
  have hexec : exec .busFree s = execBusFree s := rfl
  rw [hexec, execBusFree, if_pos hline]
  refine ⟨fun hq => ?empty, fun f rest hq => ⟨fun hfresh => ?fresh, fun id a len hf hstale => ?stale⟩⟩
  case empty => rw [startAttempt_of_empty s _ hq]
  case fresh =>
    rw [startAttempt_of_fresh s _ f rest hq hfresh]
    rfl
  case stale =>
    rw [startAttempt_of_stale s _ f rest hq id a len hf hstale]
    exact congrArg _ (s.withDiscard_eq _ _)

/-! ### Which frame goes where -/

theorem placeFrame_eq (q : QueuedFrame) (l : List QueuedFrame) :
    placeFrame q l =
      l.takeWhile (fun x => decide (frameKind x.frame ≤ frameKind q.frame))
        ++ q :: l.dropWhile (fun x => decide (frameKind x.frame ≤ frameKind q.frame)) := by
  induction l with
  | nil => rfl
  | cons x xs ih =>
    unfold placeFrame
    split
    · rename_i hlt
      simp [Nat.not_le.mpr hlt]
    · rename_i hge
      simp [Nat.le_of_not_lt hge, ih]

/-- The last element that passes the test is the one removed. -/
theorem removeLast_last {α : Type} (p : α → Bool) (before after : List α) (x : α) (hx : p x = true)
    (h : ∀ y ∈ after, p y = false) : removeLast p (before ++ x :: after) = before ++ after := by
  have hrev : (before ++ x :: after).reverse = after.reverse ++ x :: before.reverse := by simp
  rw [removeLast, hrev, eraseP_first p after.reverse before.reverse x (fun y hy => h y (List.mem_reverse.mp hy)) hx]
  simp

theorem kind_le_largestKind (l : List QueuedFrame) (q : QueuedFrame) (h : q ∈ l) : frameKind q.frame ≤ largestKind l := by
  have hfold : largestKind l = (l.map fun f => frameKind f.frame).foldr max 0 := by
    rw [← List.foldl_eq_foldr, List.foldl_map]
    rfl
  rw [hfold]
  exact List.le_max_of_le' 0 (List.mem_map_of_mem h) (Nat.le_refl _)

theorem largestKind_le (l : List QueuedFrame) (k : Nat) (h : ∀ q ∈ l, frameKind q.frame ≤ k) : largestKind l ≤ k := by
  rcases largestKind_mem l with h0 | ⟨q, hq, he⟩
  · exact h0 ▸ Nat.zero_le k
  · exact he ▸ h q hq

/-- The frames that can give way to another (R154). -/
theorem mem_notInFlight (l : List QueuedFrame) (q : QueuedFrame) :
    q ∈ l.filter (fun x => !x.inFlight) ↔ q ∈ l ∧ q.inFlight = false := by
  simp

theorem placeNew_of_room (f : Frame) (w : Line × Conditions) (h : w.1.queue.length < 8) :
    placeNew f w = ({ w.1 with queue := placeFrame (newQueued f) w.1.queue }, w.2) := if_pos h

/-- At a full queue the newest frame of the largest kind gives way to one of a smaller kind (R154). -/
theorem placeNew_of_giving_way (f : Frame) (w : Line × Conditions) (before after : List QueuedFrame) (d : QueuedFrame)
    (hfull : 8 ≤ w.1.queue.length) (hq : w.1.queue = before ++ d :: after) (hd : d.inFlight = false)
    (hless : frameKind f < frameKind d.frame)
    (hlargest : ∀ q ∈ w.1.queue, q.inFlight = false → frameKind q.frame ≤ frameKind d.frame)
    (hnewest : ∀ q ∈ after, q.inFlight = false → frameKind q.frame < frameKind d.frame) :
    placeNew f w = countDiscard ({ w.1 with queue := placeFrame (newQueued f) (before ++ after) }, w.2) := by
  have hmem : d ∈ w.1.queue := by simp [hq]
  have hk : largestKind (w.1.queue.filter (fun q => !q.inFlight)) = frameKind d.frame :=
    Nat.le_antisymm (largestKind_le _ _ fun q h => hlargest q ((mem_notInFlight _ q).mp h).1 ((mem_notInFlight _ q).mp h).2)
      (kind_le_largestKind _ d ((mem_notInFlight _ d).mpr ⟨hmem, hd⟩))
  have hgone : removeLast (fun q => !q.inFlight && frameKind q.frame == frameKind d.frame) w.1.queue = before ++ after := by
    rw [hq]
    refine removeLast_last _ before after d (by simp [hd]) fun q hqa => ?_
    by_cases hflight : q.inFlight = true
    · simp [hflight]
    · simp [Nat.ne_of_lt (hnewest q hqa (Bool.eq_false_iff.mpr hflight))]
  rw [placeNew, if_neg (show ¬_ < maxQueue from Nat.not_lt.mpr hfull)]
  dsimp only
  rw [hk, if_pos hless, hgone]

/-- A new frame of a kind not below those of the others is discarded (R154). -/
theorem placeNew_of_discarded (f : Frame) (w : Line × Conditions) (hfull : 8 ≤ w.1.queue.length)
    (hlargest : ∀ q ∈ w.1.queue, q.inFlight = false → frameKind q.frame ≤ frameKind f) :
    placeNew f w = countDiscard w := by
  have hk : largestKind (w.1.queue.filter (fun q => !q.inFlight)) ≤ frameKind f :=
    largestKind_le _ _ fun q h => hlargest q ((mem_notInFlight _ q).mp h).1 ((mem_notInFlight _ q).mp h).2
  rw [placeNew, if_neg (show ¬_ < maxQueue from Nat.not_lt.mpr hfull)]
  dsimp only
  rw [if_neg (Nat.not_lt.mpr hk)]

theorem statusMeets_iff (f : Frame) (l : List QueuedFrame) :
    (isStatus f && l.any (fun q => isStatus q.frame)) = true ↔ f = .status ∧ ∃ q ∈ l, q.frame = .status := by
  simp only [Bool.and_eq_true, List.any_eq_true, isStatus_iff]

theorem joinMeets_iff (f : Frame) (l : List QueuedFrame) :
    (isJoin f && l.any (fun q => isJoin q.frame)) = true ↔
      (∃ n crc, f = .join n crc) ∧ ∃ q ∈ l, ∃ n crc, q.frame = .join n crc := by
  simp only [Bool.and_eq_true, List.any_eq_true, isJoin_iff]

theorem offerFrame_of_status (f : Frame) (w : Line × Conditions)
    (h : f = .status ∧ ∃ q ∈ w.1.queue, q.frame = .status) :
    offerFrame f w =
      ({ w.1 with
          queue :=
            w.1.queue.map (fun q => if q.frame = .status then { q with attempts := 0, replaced := q.inFlight } else q) },
        w.2) := by
  rw [offerFrame, if_pos ((statusMeets_iff f _).mpr h)]
  simp only [isStatus_iff]

theorem offerFrame_of_join (f : Frame) (w : Line × Conditions)
    (h : (∃ n crc, f = .join n crc) ∧ ∃ q ∈ w.1.queue, ∃ n crc, q.frame = .join n crc) : offerFrame f w = w := by
  have hstatus : ¬(isStatus f && w.1.queue.any (fun q => isStatus q.frame)) = true := fun hs => by
    obtain ⟨⟨n, crc, hf⟩, -⟩ := h
    cases hf.symm.trans ((statusMeets_iff f _).mp hs).1
  rw [offerFrame, if_neg hstatus, if_pos ((joinMeets_iff f _).mpr h)]

theorem offerFrame_of_new (f : Frame) (w : Line × Conditions)
    (hstatus : ¬(f = .status ∧ ∃ q ∈ w.1.queue, q.frame = .status))
    (hjoin : ¬((∃ n crc, f = .join n crc) ∧ ∃ q ∈ w.1.queue, ∃ n crc, q.frame = .join n crc)) :
    offerFrame f w = placeNew f w := by
  rw [offerFrame, if_neg (mt (statusMeets_iff f _).mp hstatus), if_neg (mt (joinMeets_iff f _).mp hjoin)]

/-! ### A frame enqueued -/

/-- On a line that is not free the frame waits. -/
theorem State.enqueue_of_waiting (s : State) (f : Frame) (h : s.line.state ≠ .free) :
    s.enqueue f =
      { s with
        line := (offerFrame f (s.line, s.conditions)).1, conditions := (offerFrame f (s.line, s.conditions)).2 } := by
  have hstart : startIfFree s (offerFrame f (s.line, s.conditions)) = offerFrame f (s.line, s.conditions) := by
    rw [startIfFree, offerFrame_state, if_neg h]
  rw [State.enqueue, hstart]

/-- On a free line with an empty queue the frame's attempt starts (R141). -/
theorem State.enqueue_of_free (s : State) (f : Frame) (h : s.line.state = .free) (hq : s.line.queue = []) :
    s.enqueue f =
      { s with
        line := (startAttempt s ({ s.line with queue := [newQueued f] }, s.conditions)).1,
        conditions := (startAttempt s ({ s.line with queue := [newQueued f] }, s.conditions)).2 } := by
  have hoffer : offerFrame f (s.line, s.conditions) = ({ s.line with queue := [newQueued f] }, s.conditions) := by
    rw [offerFrame_of_new f _ (by simp [hq]) (by simp [hq]), placeNew_of_room f _ (by simp [hq]), hq]
    rfl
  have hstart : startIfFree s (offerFrame f (s.line, s.conditions)) =
      startAttempt s ({ s.line with queue := [newQueued f] }, s.conditions) := by
    rw [hoffer, startIfFree, if_pos h]
  rw [State.enqueue, hstart]

/-- Settles O37: by what the frame meets in the queue, and on a free line by its age. -/
theorem enqueueKeepsOrder : Obligations.EnqueueKeepsOrder := by
  unfold Obligations.EnqueueKeepsOrder
  intro s f fresh place statusMeetsStatus joinMeetsJoin marked
  have hplace (l : List QueuedFrame) : placeFrame (newQueued f) l = place l := placeFrame_eq (newQueued f) l
  refine ⟨rfl, rfl, fun hline => ?waiting, fun hline hq => ?free⟩
  case waiting =>
    rw [s.enqueue_of_waiting f hline]
    refine ⟨fun hmeets => ?status, fun hmeets => ?join, fun hstatus hjoin => ?new⟩
    case status => rw [offerFrame_of_status f _ hmeets]
    case join => rw [offerFrame_of_join f _ hmeets]
    case new =>
      rw [offerFrame_of_new f _ hstatus hjoin]
      refine ⟨fun hroom => ?room, fun hfull before d after hq hd hless hlargest hnewest => ?givingWay,
        fun hfull hlargest => ?discarded⟩
      case room => rw [placeNew_of_room f _ hroom, hplace]
      case givingWay =>
        rw [placeNew_of_giving_way f _ before after d hfull hq hd hless hlargest hnewest, hplace]
        exact s.withDiscard_eq _ _
      case discarded =>
        rw [placeNew_of_discarded f _ hfull hlargest]
        exact s.withDiscard_eq s.line s.conditions
  case free =>
    rw [s.enqueue_of_free f hline hq]
    refine ⟨fun hfresh => ?fresh, fun id a len hf hstale => ?stale⟩
    case fresh =>
      rw [startAttempt_of_fresh s _ (newQueued f) [] rfl hfresh]
      rfl
    case stale =>
      rw [startAttempt_of_stale s _ (newQueued f) [] rfl id a len hf hstale]
      exact s.withDiscard_eq _ _

end Sys2Proof.Machine
end

section
/-! PROOF. The ends of an attempt: arbitration lost, a failure that counts, and the acknowledge (R148 to R151, R155 to R157,
R176, R187); the stale point of a SIGHT (R156); CLEAR and POLL (R182, R186). -/

namespace Sys2Proof.Machine

/-! ### The frame in flight -/

/-- One frame of the queue is in flight, at this place. -/
structure Line.Flies (l : Line) (before : List QueuedFrame) (f : QueuedFrame) (after : List QueuedFrame) : Prop where
  queue : l.queue = before ++ f :: after
  inFlight : f.inFlight = true
  others : ∀ q ∈ before ++ after, q.inFlight = false

section
variable {l : Line} {before after : List QueuedFrame} {f : QueuedFrame}

theorem Line.Flies.before_grounded (h : l.Flies before f after) : ∀ q ∈ before, q.inFlight = false :=
  fun q hq => h.others q (List.mem_append_left _ hq)

theorem Line.Flies.after_grounded (h : l.Flies before f after) : ∀ q ∈ after, q.inFlight = false :=
  fun q hq => h.others q (List.mem_append_right _ hq)

theorem Line.Flies.frameInFlight (h : l.Flies before f after) : frameInFlight l = some f := by
  rw [Machine.frameInFlight, h.queue]
  exact find_first _ before after f h.before_grounded h.inFlight

theorem Line.Flies.dropInFlight (h : l.Flies before f after) : dropInFlight l = { l with queue := before ++ after } := by
  have hqueue : l.queue.filter (fun q => !q.inFlight) = before ++ after := by
    rw [h.queue, List.filter_append, List.filter_cons_of_neg (by simp [h.inFlight]), ← List.filter_append]
    exact List.filter_eq_self.mpr fun q hq => by simp [h.others q hq]
  rw [Machine.dropInFlight, hqueue]

theorem Line.Flies.keepInFlight (h : l.Flies before f after) (g : QueuedFrame → QueuedFrame) :
    keepInFlight g l = { l with queue := before ++ { g f with inFlight := false, replaced := false } :: after } := by
  have hstays (xs : List QueuedFrame) (hxs : ∀ q ∈ xs, q.inFlight = false) :
      xs.map (fun q => if q.inFlight then { g q with inFlight := false, replaced := false } else q) = xs :=
    (List.map_congr_left fun q hq => by simp [hxs q hq]).trans (List.map_id xs)
  have hflies : (if f.inFlight then { g f with inFlight := false, replaced := false } else f) =
      { g f with inFlight := false, replaced := false } := if_pos h.inFlight
  rw [Machine.keepInFlight, h.queue, List.map_append, List.map_cons, hstays before h.before_grounded,
    hstays after h.after_grounded, hflies]

end

/-! ### A lost arbitration, and the stale point -/

theorem State.loseArbitration_of_gone (s : State) (h : ∀ q ∈ s.line.queue, q.inFlight = false) : s.loseArbitration = s := by
  simp only [State.loseArbitration, frameInFlight_eq_none s.line h]

theorem State.loseArbitration_of_fresh (s : State) (before after : List QueuedFrame) (f : QueuedFrame)
    (h : s.line.Flies before f after) (hf : f.staleReached = false) :
    s.loseArbitration =
      { s with line := { s.line with queue := before ++ { f with inFlight := false, replaced := false } :: after } } := by
  simp only [State.loseArbitration, h.frameInFlight, hf, h.keepInFlight, Bool.false_eq_true, if_false, id]

theorem State.loseArbitration_of_stale (s : State) (before after : List QueuedFrame) (f : QueuedFrame)
    (h : s.line.Flies before f after) (hf : f.staleReached = true) :
    s.loseArbitration = State.discardCounted { s with line := { s.line with queue := before ++ after } } := by
  simp only [State.loseArbitration, h.frameInFlight, hf, h.dropInFlight, if_true]
  exact s.withDiscard_eq _ _

/-- The row takes the first SIGHT whose stale point is reached (R156). -/
theorem execSightStalePoint_of_first (s : State) (before after : List QueuedFrame) (f : QueuedFrame)
    (hq : s.line.queue = before ++ f :: after)
    (hbefore : ∀ q ∈ before, ¬(Reached s.tach.count q.stalePoint ∧ q.staleReached = false))
    (hf : Reached s.tach.count f.stalePoint ∧ f.staleReached = false) :
    execSightStalePoint s =
      .next
        (if f.inFlight then
          { s with line := { s.line with queue := before ++ { f with staleReached := true } :: after } }
        else State.discardCounted { s with line := { s.line with queue := before ++ after } }) := by
  have hb : ∀ q ∈ before, staleDue s.tach.count q = false := fun q hqb =>
    Bool.eq_false_iff.mpr (mt (staleDue_iff _ q).mp (hbefore q hqb))
  have hd : staleDue s.tach.count f = true := (staleDue_iff _ f).mpr hf
  have hfind : s.line.queue.find? (staleDue s.tach.count) = some f := by rw [hq, find_first _ _ _ _ hb hd]
  have hmarked := modifyFirst_first (staleDue s.tach.count) (fun x => { x with staleReached := true }) before after f hb hd
  have herased := eraseP_first (staleDue s.tach.count) before after f hb hd
  rw [← hq] at hmarked herased
  simp only [execSightStalePoint, hfind, hmarked, herased]
  by_cases hflight : f.inFlight = true
  · rw [if_pos hflight, if_pos hflight]
  · rw [if_neg hflight, if_neg hflight]
    exact congrArg _ (s.withDiscard_eq _ _)

/-- Settles O38: by whether the frame in flight is stale, and whether the stale frame is in flight. -/
theorem lostArbitrationAndStaleSight : Obligations.LostArbitrationAndStaleSight := by
  unfold Obligations.LostArbitrationAndStaleSight
  refine ⟨fun s hline => ?lost, fun s before after f hq hbefore hreached hf => ?stale⟩
  case lost =>
    intro t
    have hexec : exec .arbitrationLost s = .next t.loseArbitration := if_pos hline
    rw [hexec]
    refine ⟨fun hgone => congrArg _ (t.loseArbitration_of_gone hgone), fun before f after hq hflight hothers => ?_⟩
    have hflies : t.line.Flies before f after := ⟨hq, hflight, hothers⟩
    exact ⟨fun hf => congrArg _ (t.loseArbitration_of_fresh before after f hflies hf),
      fun hf => congrArg _ (t.loseArbitration_of_stale before after f hflies hf)⟩
  case stale =>
    have hexec : exec .sightStalePoint s = execSightStalePoint s := rfl
    rw [hexec, execSightStalePoint_of_first s before after f hq hbefore ⟨hreached, hf⟩]
    exact ⟨fun hground => by simp [hground], fun hflight => by simp [hflight]⟩

/-! ### An attempt that counts and is not acknowledged -/

theorem State.joinEnded_eq (s : State) :
    s.joinEnded = { s with runState := if s.runState = .joining then .running else s.runState } := by
  unfold State.joinEnded
  split <;> rfl

section
variable (s : State) (before after : List QueuedFrame) (f : QueuedFrame) (h : s.line.Flies before f after)
include h

theorem State.failAttempt_of_replaced (hr : f.replaced = true) :
    s.failAttempt =
      { s with
        line :=
          { s.line with queue := before ++ { f with inFlight := false, replaced := false, attempts := 0 } :: after } } := by
  simp only [State.failAttempt, h.frameInFlight, hr, h.keepInFlight, if_true]

theorem State.failAttempt_of_retried (hr : f.replaced = false) (ha : f.attempts ≤ 1) (hf : f.staleReached = false) :
    s.failAttempt =
      { s with
        line :=
          { s.line with
            queue := before ++ { f with inFlight := false, replaced := false, attempts := f.attempts + 1 } :: after } } := by
  have hfew : ¬2 ≤ f.attempts := Nat.not_le.mpr (Nat.lt_succ_of_le ha)
  simp only [State.failAttempt, h.frameInFlight, hr, hfew, hf, h.keepInFlight, Bool.false_eq_true, if_false]

theorem State.failAttempt_of_stale (hr : f.replaced = false) (ha : f.attempts ≤ 1) (hf : f.staleReached = true) :
    s.failAttempt = State.discardCounted { s with line := { s.line with queue := before ++ after } } := by
  have hfew : ¬2 ≤ f.attempts := Nat.not_le.mpr (Nat.lt_succ_of_le ha)
  simp only [State.failAttempt, h.frameInFlight, hr, hfew, hf, h.dropInFlight, Bool.false_eq_true, if_false, if_true]
  exact s.withDiscard_eq _ _

/-- The third attempt discards the frame (R151). -/
theorem State.failAttempt_of_third (hr : f.replaced = false) (ha : 2 ≤ f.attempts) :
    s.failAttempt =
      let t :=
        State.discardCounted
          { s with
            line := { s.line with queue := before ++ after }, conditions := s.conditions.setTo .isolated true }
      if isJoin f.frame then t.joinEnded else t := by
  simp only [State.failAttempt, h.frameInFlight, hr, ha, h.dropInFlight, Bool.false_eq_true, if_false, if_true]
  rw [s.withDiscard_eq]

end

/-- Settles O39: by the marks and the attempt count of the frame in flight. -/
theorem failedAttemptIsCounted : Obligations.FailedAttemptIsCounted := by
  unfold Obligations.FailedAttemptIsCounted
  intro s c hline hc
  have hexec : exec c s = .next s.attemptOver.failAttempt := by
    rcases hc with rfl | rfl
    · exact if_pos hline
    · exact if_pos hline
  rw [hexec]
  refine ⟨fun hgone => congrArg _ (s.attemptOver.failAttempt_of_gone hgone), fun before f after hq hflight hothers => ?_⟩
  have hflies : s.attemptOver.line.Flies before f after := ⟨hq, hflight, hothers⟩
  refine ⟨fun hr => ?replaced, fun hr ha hf => ?retried, fun hr ha hf => ?stale, fun hr ha => ?third⟩
  case replaced => exact congrArg _ (s.attemptOver.failAttempt_of_replaced before after f hflies hr)
  case retried => exact congrArg _ (s.attemptOver.failAttempt_of_retried before after f hflies hr ha hf)
  case stale => exact congrArg _ (s.attemptOver.failAttempt_of_stale before after f hflies hr ha hf)
  case third =>
    rw [s.attemptOver.failAttempt_of_third before after f hflies hr ha]
    refine ⟨fun hjoin => ?_, fun hjoin => ?_⟩
    · exact congrArg _ (if_neg (mt (isJoin_iff _).mp hjoin))
    · exact congrArg _ ((if_pos ((isJoin_iff _).mpr hjoin)).trans (State.joinEnded_eq _))

/-! ### An acknowledged attempt -/

/-- The frame in flight has left the queue and ISOLATED is cleared (R151). -/
def State.delivered (s : State) (before after : List QueuedFrame) : State :=
  { s with line := { s.line with queue := before ++ after }, conditions := s.conditions.setTo .isolated false }

section
variable (s : State) (before after : List QueuedFrame) (f : QueuedFrame) (h : s.line.Flies before f after)
include h

theorem State.ackAttempt_of_plain (hs : f.frame ≠ .status) (hj : ¬∃ n crc, f.frame = .join n crc) :
    s.ackAttempt = s.delivered before after := by
  simp only [State.ackAttempt, h.frameInFlight, h.dropInFlight, mt (isStatus_iff _).mp hs, mt (isJoin_iff _).mp hj]
  rfl

theorem State.ackAttempt_of_status (hs : f.frame = .status) :
    s.ackAttempt =
      let u := { s.delivered before after with conditions := (s.delivered before after).conditions.clearReported }
      if f.replaced then u.enqueue .status else u := by
  simp only [State.ackAttempt, h.frameInFlight, h.dropInFlight, (isStatus_iff _).mpr hs, if_true]
  rfl

theorem State.ackAttempt_of_join (hj : ∃ n crc, f.frame = .join n crc) :
    s.ackAttempt = (s.delivered before after).joinEnded := by
  have hs : ¬isStatus f.frame = true := by
    obtain ⟨n, crc, hf⟩ := hj
    simp [hf, isStatus]
  simp only [State.ackAttempt, h.frameInFlight, h.dropInFlight, hs, (isJoin_iff _).mpr hj, if_true]
  rfl

end

/-- Settles O40: by what the frame in flight is. -/
theorem acknowledgedAttemptLeavesQueue : Obligations.AcknowledgedAttemptLeavesQueue := by
  unfold Obligations.AcknowledgedAttemptLeavesQueue
  intro s hline
  have hexec : exec (.attemptEnd true) s = .next s.attemptOver.ackAttempt := if_pos hline
  rw [hexec]
  refine ⟨fun hgone => congrArg _ (s.attemptOver.ackAttempt_of_gone hgone), fun before f after hq hflight hothers => ?_⟩
  have hflies : s.attemptOver.line.Flies before f after := ⟨hq, hflight, hothers⟩
  refine ⟨fun hs hj => ?plain, fun hs hr => ?reported, fun hs hr => ?replaced, fun hj => ?joined⟩
  case plain => exact congrArg _ (s.attemptOver.ackAttempt_of_plain before after f hflies hs hj)
  case reported =>
    rw [s.attemptOver.ackAttempt_of_status before after f hflies hs]
    exact congrArg _ (if_neg (Bool.eq_false_iff.mp hr))
  case replaced =>
    rw [s.attemptOver.ackAttempt_of_status before after f hflies hs]
    exact congrArg _ (if_pos hr)
  case joined =>
    rw [s.attemptOver.ackAttempt_of_join before after f hflies hj]
    exact congrArg _ (State.joinEnded_eq _)

end Sys2Proof.Machine
end

section
/-! PROOF. A CLEAR and a POLL at their owning block (R182, R186), at a receiver and while an attempt is on the line, and the
end of the attempt of a STATUS that a POLL replaces (R155). -/

namespace Sys2Proof.Machine

/-! ### CLEAR -/

/-- Handing a frame on changes neither the pins nor the straps. -/
theorem State.HandsOn.kept_inputs {s t : State} {h : Header} (ht : s.HandsOn h t) :
    t.pins = s.pins ∧ t.straps = s.straps := by
  obtain ⟨-, -, ⟨-, rfl⟩ | ⟨-, rfl⟩⟩ := ht
  · exact ⟨rfl, rfl⟩
  · exact ⟨rfl, rfl⟩

theorem State.takeClear_of_not_jammed (s : State) (h : s.runState ≠ .jammed) : s.takeClear = s := if_neg h

/-- In JAMMED a CLEAR is tested against the levels of PCELL and STOP (R182). -/
theorem State.takeClear_of_jammed (s : State) (h : s.runState = .jammed) :
    s.takeClear =
      if s.pins.pcellBlocked then s.enqueue (.jam .clearRefused)
      else if s.pins.stopHigh then s.leaveJammed
      else s.enqueue (.jam .stop) := if_pos h

/-! ### POLL -/

theorem State.takePoll_of_aimed (s : State) (target : Byte) (hj : s.joined = true)
    (h : target.toNat = s.straps.station.toNat ∨ target.toNat = 255) : s.takePoll target = s.enqueue .status := by
  have haimed : target = s.straps.station.setWidth 8 ∨ target = 0xFF := by bv_omega
  exact if_pos ⟨hj, haimed⟩

theorem State.takePoll_of_ignored (s : State) (target : Byte)
    (h : s.joined = false ∨ (target.toNat ≠ s.straps.station.toNat ∧ target.toNat ≠ 255)) : s.takePoll target = s := by
  refine if_neg fun ⟨hj, haimed⟩ => ?_
  rcases h with h | h
  · simp [h] at hj
  · bv_omega

/-- The one STATUS of the queue is replaced where it is (R155). -/
theorem replaceStatus_at (before after : List QueuedFrame) (q : QueuedFrame) (hq : q.frame = .status)
    (hflight : q.inFlight = true) (hothers : ∀ x ∈ before ++ after, x.frame ≠ .status) :
    (before ++ q :: after).map
        (fun x => if x.frame = .status then { x with attempts := 0, replaced := x.inFlight } else x) =
      before ++ { q with attempts := 0, replaced := true } :: after := by
  have hstays (xs : List QueuedFrame) (hxs : ∀ x ∈ xs, x.frame ≠ .status) :
      xs.map (fun x => if x.frame = .status then { x with attempts := 0, replaced := x.inFlight } else x) = xs :=
    (List.map_congr_left fun x hx => by simp [hxs x hx]).trans (List.map_id xs)
  rw [List.map_append, List.map_cons, hstays before fun x hx => hothers x (List.mem_append_left _ hx),
    hstays after fun x hx => hothers x (List.mem_append_right _ hx), if_pos hq, hflight]

/-- Settles O47: a CLEAR by the run state and the levels, a POLL by its target; a STATUS in flight meets the new one. -/
theorem clearAndPollReceived : Obligations.ClearAndPollReceived := by
  unfold Obligations.ClearAndPollReceived
  intro s t h hands
  have hclear : exec (.clearReceived h) s = .next t.takeClear := congrArg _ (s.receiveOrHandOn_of_handsOn t h _ hands)
  have hpoll (target : Byte) : exec (.pollReceived h target) s = .next (t.takePoll target) :=
    congrArg _ (s.receiveOrHandOn_of_handsOn t h _ hands)
  obtain ⟨-, -, -, -, hrun, -, hconditions⟩ := hands.kept
  obtain ⟨hpins, hstraps⟩ := hands.kept_inputs
  have hjoined : t.joined = s.joined := State.joined_of_runState hrun
  rw [hclear]
  refine ⟨fun hr => ?ignored, fun hr => ?jammed, fun target => ⟨fun hj haimed => ⟨?aimed, ?replaced⟩, fun hout => ?other⟩⟩
  case ignored => rw [t.takeClear_of_not_jammed (hrun ▸ hr)]
  case jammed =>
    rw [t.takeClear_of_jammed (hrun.trans hr), ← hpins]
    refine ⟨fun hblocked => ?_, fun hclear hlow => ?_, fun hclear hhigh => ?_⟩
    · rw [if_pos hblocked]
    · rw [if_neg (by simp [hclear]), if_neg (by simp [hlow])]
    · rw [if_neg (by simp [hclear]), if_pos hhigh, ← hconditions]
      rfl
  case aimed => rw [hpoll, t.takePoll_of_aimed target (hjoined ▸ hj) (hstraps ▸ haimed)]
  case other => rw [hpoll, t.takePoll_of_ignored target (by rwa [hjoined, hstraps])]
  case replaced =>
    intro before q after hline hqueue hstatus hflight hothers u
    have ⟨hstation, hposition, _⟩ := hands
    obtain rfl : s = t := State.HandsOn.unique ⟨hstation, hposition, .inr ⟨hline, rfl⟩⟩ hands
    have hu : s.enqueue .status = u := by
      rw [s.enqueue_of_waiting .status (by rw [hline]; nofun),
        offerFrame_of_status .status _ ⟨rfl, q, by simp [hqueue], hstatus⟩, hqueue,
        replaceStatus_at before after q hstatus hflight fun x hx => (hothers x hx).2]
    have hflies : u.attemptOver.line.Flies before { q with attempts := 0, replaced := true } after :=
      ⟨rfl, hflight, fun x hx => (hothers x hx).1⟩
    have hacked : exec (.attemptEnd true) u = .next u.attemptOver.ackAttempt := if_pos hline
    have hfailed : exec (.attemptEnd false) u = .next u.attemptOver.failAttempt := if_pos hline
    refine ⟨by rw [hpoll, s.takePoll_of_aimed target hj haimed, hu], ?_, ?_⟩
    · rw [hacked, u.attemptOver.ackAttempt_of_status before after _ hflies hstatus]
      rfl
    · rw [hfailed, u.attemptOver.failAttempt_of_replaced before after _ hflies rfl]
      rfl

end Sys2Proof.Machine
end

section
/-! PROOF. A fall of POWER_OK or of RESET (R159, R163): the station at rest, and what it keeps. -/

namespace Sys2Proof.Machine

/-- In RESET with its work abandoned, at these pins and with this configuration (R163, R164). -/
def State.atRest (s : State) (pins : Pins) (config : Option StationConfig) (lost : Bool) : State :=
  { s.abandonWork with
    runState := .reset, haltedAtEntry := s.haltedAtEntry || (s.runState == RunState.halted), pins := pins,
    config := config, powerLost := lost }

theorem execResetEntry_of_powerOk (s : State) (h : s.pins.powerOk = true) :
    execResetEntry .powerOk s = .next (s.atRest { s.pins with powerOk := false } none true) := if_pos h

theorem execResetEntry_of_reset (s : State) (h : s.pins.resetHigh = true) :
    execResetEntry .reset s = .next (s.atRest { s.pins with resetHigh := false } s.config s.powerLost) := if_pos h

section
variable (s : State) (pins : Pins) (config : Option StationConfig) (lost : Bool)

theorem State.atRest_idle : (s.atRest pins config lost).Idle := s.abandonWork_idle

theorem State.atRest_pocket (k : Fin 4) : (s.atRest pins config lost).pocket k = (s.pocket k).dropOps :=
  get_map Pocket.dropOps s.pockets k

theorem State.atRest_gateOut (k : Fin 4) : (s.atRest pins config lost).gateOut k = false := by
  rw [State.gateOut, State.atRest_pocket]
  rfl

theorem State.atRest_tally (k : Fin 4) : ((s.atRest pins config lost).pocket k).tally = (s.pocket k).tally := by
  rw [State.atRest_pocket]
  rfl

/-- Of the conditions only CONFIG_CLAMPED and POCKET_DISABLED outlive the fall (log 17). -/
theorem State.atRest_isActive (c : Condition) :
    (s.atRest pins config lost).conditions.isActive c =
      if c = .configClamped ∨ c = .pocketDisabled then s.conditions.isActive c else false :=
  s.conditions.isActive_kept c

end

/-- Settles O49: the two signals lead to the same rest, and differ in the pin that falls and in the configuration. -/
theorem resetEntryAbandonsWork : Obligations.ResetEntryAbandonsWork := by
  unfold Obligations.ResetEntryAbandonsWork
  refine ⟨fun s signal hhigh => ?fall, fun s straps hr hpower hreset => if_pos ⟨hr, hpower, hreset⟩⟩
  case fall =>
    obtain ⟨pins, config, lost, hexec, hpower, hreset⟩ :
        ∃ pins config lost, exec (.resetEntry signal) s = .next (s.atRest pins config lost)
          ∧ (signal = .powerOk → pins = { s.pins with powerOk := false } ∧ config = none ∧ lost = true)
          ∧ (signal = .reset →
              pins = { s.pins with resetHigh := false } ∧ config = s.config ∧ lost = s.powerLost) := by
      cases signal with
      | powerOk => exact ⟨_, _, _, execResetEntry_of_powerOk s hhigh, fun _ => ⟨rfl, rfl, rfl⟩, nofun⟩
      | reset => exact ⟨_, _, _, execResetEntry_of_reset s hhigh, nofun, fun _ => ⟨rfl, rfl, rfl⟩⟩
    have hgate := s.atRest_gateOut pins config lost
    have hactive := s.atRest_isActive pins config lost
    exact ⟨s.atRest pins config lost, hexec, rfl, s.atRest_idle pins config lost, rfl, rfl, rfl, hgate 0, hgate 1, hgate 2,
      hgate 3, rfl, rfl, rfl, rfl, rfl, fun _ => ⟨rfl, rfl⟩, rfl, rfl, rfl, rfl, rfl, rfl, rfl,
      s.atRest_tally pins config lost, rfl, rfl, (hactive _).trans (if_pos (.inl rfl)),
      (hactive _).trans (if_pos (.inr rfl)), fun c h1 h2 => (hactive c).trans (if_neg (not_or.mpr ⟨h1, h2⟩)),
      rfl, rfl, rfl, hpower, hreset⟩

end Sys2Proof.Machine
end

section
/-! PROOF. Received frames before their owning blocks (R150, R160 to R162, R177): the acknowledge, the tests, and the frames
that then change nothing. -/

namespace Sys2Proof.Machine

/-! ### The row of a received frame -/

/-- What the owning block of a received frame does with it; nothing for a JOIN and an ignored frame. -/
def ownerOf : Instr → State → State
  | .jamReceived _ _ => State.takeJam
  | .clearReceived _ => State.takeClear
  | .claimReceived h id pocket => fun t => t.takeClaim h id pocket
  | .releaseReceived h id pocket _ => fun t => t.takeRelease h id pocket
  | .divertedReceived h id _ _ => fun t => t.takeDiverted h id
  | .sightReceived h id age length => fun t => t.takeSight h id age length
  | .readReceived h id outcome quality _ code => fun t => t.takeRead h id outcome quality code
  | .lostReceived h id => fun t => t.takeLost h id
  | .pollReceived _ target => fun t => t.takePoll target
  | _ => id

/-- The owning block takes the frame also while an attempt of this station is on the line (log 28). -/
def takenAtSender : Instr → Bool
  | .sightReceived _ _ _ _ => false
  | .joinReceived _ _ _ => false
  | .ignoredFrameReceived _ _ _ => false
  | _ => true

/-- Each received-frame command is its owning block's effect behind the tests of R161. -/
theorem exec_received (c : Instr) (kind : BitVec 4) (h : Header) (body : List Byte) (hf : frameOf c = some (kind, h, body))
    (hw : WellFormed c = true) (s : State) :
    exec c s = .next (if takenAtSender c then s.receiveOrHandOn h (ownerOf c) else s.receive h (ownerOf c)) := by
  cases c
  case jamReceived => cases hf; rfl
  case clearReceived => cases hf; rfl
  case claimReceived => cases hf; rfl
  case releaseReceived => cases hf; rfl
  case divertedReceived => cases hf; rfl
  case sightReceived => cases hf; rfl
  case readReceived code => cases code <;> (cases hf; rfl)
  case lostReceived => cases hf; rfl
  case pollReceived => cases hf; rfl
  case joinReceived => cases hf; rfl
  case ignoredFrameReceived =>
    cases hf
    exact if_pos hw
  all_goals cases hf

/-- A frame that its owning block does not act on in the state t: a letter frame outside RUNNING or not from upstream, a JAM
outside RUNNING, a kind without an owner, a JOIN, and an ignored frame. -/
def Inert (c : Instr) (kind : BitVec 4) (h : Header) (body : List Byte) (t : State) : Prop :=
  (2 ≤ kind.toNat ∧ kind.toNat ≤ 7 ∧ t.takesFrom h = false) ∨ (kind = 0 ∧ t.runState ≠ .running) ∨ kind = 8
    ∨ 10 ≤ kind.toNat ∨ c = .ignoredFrameReceived h kind body

theorem Inert.of_kind {c : Instr} {kind : BitVec 4} {h : Header} {body : List Byte} {t : State}
    (hk : kind = 8 ∨ 10 ≤ kind.toNat) : Inert c kind h body t :=
  .inr (.inr (hk.imp_right .inl))

theorem State.takesFrom_eq_false (s : State) (h : Header)
    (hn : s.runState ≠ .running ∨ s.cfg.position.toNat ≤ h.position.toNat) : s.takesFrom h = false := by
  rcases hn with hn | hn
  · simp [State.takesFrom, hn]
  · simp [State.takesFrom, State.upstream, BitVec.le_def, hn]

theorem Inert.ownerOf_eq {c : Instr} {kind : BitVec 4} {h : Header} {body : List Byte} {t : State}
    (hi : Inert c kind h body t) (hf : frameOf c = some (kind, h, body)) : ownerOf c t = t := by
  have hletter (i : Instr) (h2 : 2 ≤ kind.toNat) (h7 : kind.toNat ≤ 7) (hc : c = i)
      (hne : i ≠ .ignoredFrameReceived h kind body) : t.takesFrom h = false := by
    rcases hi with ⟨-, -, ht⟩ | ⟨rfl, -⟩ | rfl | h10 | rfl
    · exact ht
    · exact absurd h2 (by decide)
    · exact absurd h7 (by decide)
    · omega
    · exact absurd hc.symm hne
  cases c
  case jamReceived =>
    cases hf
    rcases hi with ⟨h2, -⟩ | ⟨-, hr⟩ | h8 | h10 | hc
    · exact absurd h2 (by decide)
    · exact if_neg hr
    · exact absurd h8 (by decide)
    · exact absurd h10 (by decide)
    · cases hc
  case claimReceived =>
    cases hf
    simp [ownerOf, State.takeClaim, hletter _ (by decide) (by decide) rfl nofun]
  case releaseReceived =>
    cases hf
    simp [ownerOf, State.takeRelease, hletter _ (by decide) (by decide) rfl nofun]
  case divertedReceived =>
    cases hf
    simp [ownerOf, State.takeDiverted, hletter _ (by decide) (by decide) rfl nofun]
  case sightReceived =>
    cases hf
    simp [ownerOf, State.takeSight, hletter _ (by decide) (by decide) rfl nofun]
  case readReceived code =>
    cases code <;>
      (cases hf
       simp [ownerOf, State.takeRead, hletter _ (by decide) (by decide) rfl nofun])
  case lostReceived =>
    cases hf
    simp [ownerOf, State.takeLost, hletter _ (by decide) (by decide) rfl nofun]
  case clearReceived =>
    cases hf
    simp [Inert] at hi
  case pollReceived =>
    cases hf
    simp [Inert] at hi
  all_goals rfl

/-! ### At a sender -/

theorem exec_received_of_sender (c : Instr) (kind : BitVec 4) (h : Header) (body : List Byte)
    (hf : frameOf c = some (kind, h, body)) (hw : WellFormed c = true) (s : State) (hline : s.line.state = .inFrame .sender)
    (hn : h.station = s.straps.station ∨ h.position = s.cfg.position ∨ kind = 5 ∨ Inert c kind h body s) :
    exec c s = .next s := by
  have hreceive : s.receive h (ownerOf c) = s := s.receive_of_not_receiver h _ (by rw [hline]; nofun)
  have hhand : s.receiveOrHandOn h (ownerOf c) = if s.ownNumber h || s.ownPosition h then s else ownerOf c s :=
    if_pos (by simp [State.sending, hline])
  rw [exec_received c kind h body hf hw s, hreceive, hhand]
  rcases hn with hs | hp | rfl | hi
  · simp [State.ownNumber, hs]
  · simp [State.ownPosition, hp]
  · have htaken : takenAtSender c = false := by
      cases c
      case sightReceived => rfl
      case ignoredFrameReceived => rfl
      case readReceived code => cases code <;> cases hf
      all_goals cases hf
    simp [htaken]
  · simp [hi.ownerOf_eq hf]

/-! ### At a receiver -/

/-- The acknowledged station with the conditions that the tests of R161 latch. -/
theorem State.acknowledge_testSender (s : State) (h : Header) :
    s.acknowledge.testSender h =
      let numbered := if h.station = s.straps.station then s.acknowledge.latch .dupStation else s.acknowledge
      if h.position = s.cfg.position then numbered.latch .positionClash else numbered := by
  have hnumber : s.acknowledge.ownNumber h = decide (h.station = s.straps.station) := rfl
  have hposition : s.acknowledge.ownPosition h = decide (h.position = s.cfg.position) := rfl
  simp only [State.testSender, hnumber, hposition, decide_eq_true_eq]
  split <;> split <;> rfl

theorem exec_received_of_receiver (c : Instr) (kind : BitVec 4) (h : Header) (body : List Byte)
    (hf : frameOf c = some (kind, h, body)) (hw : WellFormed c = true) (s : State)
    (hline : s.line.state = .inFrame .receiver) :
    exec c s =
      .next
        (if h.station = s.straps.station ∨ h.position = s.cfg.position then s.acknowledge.testSender h
        else ownerOf c (s.acknowledge.testSender h)) := by
  have hboth : s.receiveOrHandOn h (ownerOf c) = s.receive h (ownerOf c) := if_neg (by simp [State.sending, hline])
  have hreceive : s.receive h (ownerOf c) =
      if h.station = s.straps.station ∨ h.position = s.cfg.position then s.acknowledge.testSender h
      else ownerOf c (s.acknowledge.testSender h) := by
    simp only [State.receive, State.receiving, hline, State.ownNumber, State.ownPosition, beq_self_eq_true, if_true,
      Bool.or_eq_true, beq_iff_eq]
  rw [exec_received c kind h body hf hw s, hboth, ite_self, hreceive]

/-- Settles O41: by the station's part in the frame, then by the two tests, then by what the owning block would do. -/
theorem receivedFramesAreAcknowledgedAndTested : Obligations.ReceivedFramesAreAcknowledgedAndTested := by
  unfold Obligations.ReceivedFramesAreAcknowledgedAndTested
  refine ⟨fun s c kind h body hf hw => ?_, fun s h hline => ?_⟩
  · intro acked notUpstream
    refine ⟨fun hr hs => ?outside, fun hline hn => ?sender, fun hline => ?receiver⟩
    case outside => exact exec_frame_of_no_frame s hr hs c (by simp [hf])
    case sender =>
      have htakes : notUpstream → s.takesFrom h = false := s.takesFrom_eq_false h
      refine exec_received_of_sender c kind h body hf hw s hline ?_
      unfold Inert
      tauto
    case receiver =>
      rw [exec_received_of_receiver c kind h body hf hw s hline, s.acknowledge_testSender h]
      refine ⟨fun h1 h2 => ?_, fun h1 h2 => ?_, fun h1 h2 => ?_, fun h1 h2 => ?_⟩
      · simp only [h1, h2, true_or, if_true, if_false]
        rfl
      · simp only [h1, h2, or_true, if_true, if_false]
        rfl
      · simp only [h1, h2, true_or, if_true]
        rfl
      · have hinert (hi : Inert c kind h body acked) :
            (.next (ownerOf c acked) : Host.Outcome State Fault Refusal) = .next acked := congrArg _ (hi.ownerOf_eq hf)
        simp only [h1, h2, or_self, if_false]
        refine ⟨fun hk => hinert ?_, fun hk hr => hinert (.inr (.inl ⟨hk, hr⟩)),
          fun hk2 hk7 hn => hinert (.inl ⟨hk2, hk7, acked.takesFrom_eq_false h hn⟩)⟩
        refine .of_kind ?_
        rcases hk with rfl | hk | rfl | rfl
        · exact .inr (by decide)
        · exact .inr (by omega)
        · exact .inl rfl
        · exact .inr (by decide)
  · intro acked numbered tested
    have htested : s.acknowledge.testSender h = tested := s.acknowledge_testSender h
    have hid (c : Instr) (kind : BitVec 4) (body : List Byte) (hf : frameOf c = some (kind, h, body))
        (hw : WellFormed c = true) (ho : ownerOf c = id) : exec c s = .next tested := by
      rw [exec_received_of_receiver c kind h body hf hw s hline, htested, ho, id, ite_self]
    exact ⟨fun pockets crc => hid _ _ _ rfl rfl rfl, fun kind body hw => hid _ _ _ rfl hw rfl⟩

end Sys2Proof.Machine
end

section
/-! PROOF. The cells of a frame (R143), what a receiver makes of them (R145, R146), and the start of a frame (R141, R142). -/

namespace Sys2Proof

/-! ### Stuffing -/

/-- A stuff cell is due after seven 1 cells, before whatever follows. -/
theorem stuffCells_seven (bits : List Bool) : stuffCells 7 bits = false :: stuffCells 0 bits := by
  cases bits <;> rfl

theorem stuffCells_nil {n : Nat} (h : n < 7) : stuffCells n [] = [] := if_neg (Nat.ne_of_lt h)

theorem stuffCells_cons {n : Nat} (h : n < 7) (b : Bool) (bits : List Bool) :
    stuffCells n (b :: bits) = b :: stuffCells (if b then n + 1 else 0) bits := if_neg (Nat.ne_of_lt h)

theorem stuffCells_replicate_append (n m : Nat) (h : n + m ≤ 7) (bits : List Bool) :
    stuffCells n (List.replicate m true ++ bits) = List.replicate m true ++ stuffCells (n + m) bits := by
  induction m generalizing n with
  | zero => rfl
  | succ m ih =>
    rw [List.replicate_succ, List.cons_append, stuffCells_cons (by omega), if_pos rfl, ih (n + 1) (by omega),
      Nat.add_right_comm, Nat.add_assoc]
    rfl

/-- The 1 cells sent since the last 0, after these cells. -/
def onesAfter : Nat → List Bool → Nat
  | n, [] => n
  | n, c :: cells => onesAfter (if c then n + 1 else 0) cells

theorem onesAfter_replicate (n m : Nat) : onesAfter n (List.replicate m true) = n + m := by
  induction m generalizing n with
  | zero => rfl
  | succ m ih =>
    calc onesAfter n (List.replicate (m + 1) true) = onesAfter (n + 1) (List.replicate m true) := rfl
      _ = n + 1 + m := ih (n + 1)
      _ = n + (m + 1) := Nat.add_right_comm n 1 m

theorem onesAfter_append_replicate (n m : Nat) (cells : List Bool) :
    onesAfter n (cells ++ List.replicate m true) = onesAfter n cells + m := by
  induction cells generalizing n with
  | nil => exact onesAfter_replicate n m
  | cons c cells ih => exact ih _

/-! ### Judging the bits of a frame without its cells -/

/-- What a receiver finds of these bits of a frame, one after the other, when the bits before them are read. -/
def judgeUnstuffed : List Bool → List Bool → Judgement
  | _, [] => .underWay
  | done, b :: bits =>
    match judgeBits (done ++ [b]) with
    | .underWay => judgeUnstuffed (done ++ [b]) bits
    | j => j

theorem judgeUnstuffed_cons_underWay {done bits : List Bool} {b : Bool} (h : judgeBits (done ++ [b]) = .underWay) :
    judgeUnstuffed done (b :: bits) = judgeUnstuffed (done ++ [b]) bits := by
  simp only [judgeUnstuffed, h]

theorem judgeUnstuffed_cons_ended {done bits : List Bool} {b : Bool} (h : judgeBits (done ++ [b]) ≠ .underWay) :
    judgeUnstuffed done (b :: bits) = judgeBits (done ++ [b]) := by
  cases hb : judgeBits (done ++ [b]) with
  | underWay => contradiction
  | broken cause => simp only [judgeUnstuffed, hb]
  | wellFormed data => simp only [judgeUnstuffed, hb]

theorem judgeBits_of_judgeUnstuffed_cons {done bits : List Bool} {b : Bool}
    (h : judgeUnstuffed done (b :: bits) = .underWay) : judgeBits (done ++ [b]) = .underWay := by
  by_contra hb
  exact hb (judgeUnstuffed_cons_ended hb ▸ h)

/-- The first bit at which the judgement is more than under way decides it. -/
theorem judgeUnstuffed_of_first {j : Judgement} (hj : j ≠ .underWay) (bits done : List Bool) (m : Nat) (hpos : 1 ≤ m)
    (hle : m ≤ bits.length) (hbefore : ∀ l, 1 ≤ l → l < m → judgeBits (done ++ bits.take l) = .underWay)
    (hat : judgeBits (done ++ bits.take m) = j) : judgeUnstuffed done bits = j := by
  induction bits generalizing done m with
  | nil => exact absurd (Nat.le_trans hpos hle) (by decide)
  | cons b bits ih =>
    by_cases hone : m = 1
    · subst hone
      have hb : judgeBits (done ++ [b]) = j := hat
      rw [judgeUnstuffed_cons_ended (hb ▸ hj), hb]
    · obtain ⟨m, rfl⟩ : ∃ k, m = k + 1 := ⟨m - 1, by omega⟩
      rw [judgeUnstuffed_cons_underWay (hbefore 1 (Nat.le_refl 1) (by omega))]
      refine ih (done ++ [b]) m (by omega) (Nat.le_of_succ_le_succ hle) (fun l hl hlm => ?_) ?_
      · simpa using hbefore (l + 1) (by omega) (by omega)
      · simpa using hat

theorem judgeUnstuffed_underWay (bits done : List Bool)
    (h : ∀ l, 1 ≤ l → l ≤ bits.length → judgeBits (done ++ bits.take l) = .underWay) :
    judgeUnstuffed done bits = .underWay := by
  induction bits generalizing done with
  | nil => rfl
  | cons b bits ih =>
    rw [judgeUnstuffed_cons_underWay (h 1 (Nat.le_refl 1) (Nat.succ_le_succ (Nat.zero_le _)))]
    refine ih (done ++ [b]) (fun l hl hlen => ?_)
    simpa using h (l + 1) (by omega) (Nat.succ_le_succ hlen)

/-! ### A receiver that reads the cells -/

theorem judgeFrom_seven (done cells : List Bool) (c : Bool) :
    judgeFrom 7 done (c :: cells) = if c then .broken .stuffError else judgeFrom 0 done cells := rfl

theorem judgeFrom_underWay {n : Nat} (hn : n < 7) {done cells : List Bool} {c : Bool}
    (h : judgeBits (done ++ [c]) = .underWay) :
    judgeFrom n done (c :: cells) = judgeFrom (if c then n + 1 else 0) (done ++ [c]) cells := by
  rw [judgeFrom, if_neg (Nat.ne_of_lt hn), h]

theorem judgeFrom_ended {n : Nat} (hn : n < 7) {done cells : List Bool} {c : Bool}
    (h : judgeBits (done ++ [c]) ≠ .underWay) : judgeFrom n done (c :: cells) = judgeBits (done ++ [c]) := by
  rw [judgeFrom, if_neg (Nat.ne_of_lt hn)]
  split
  · contradiction
  · rfl

/-- A receiver takes the stuff cells out again: it judges the bits they were put into. -/
theorem judgeFrom_stuffCells (bits done : List Bool) (n : Nat) (hn : n ≤ 7) :
    judgeFrom n done (stuffCells n bits) = judgeUnstuffed done bits := by
  have skip (h : judgeFrom 0 done (stuffCells 0 bits) = judgeUnstuffed done bits) :
      judgeFrom 7 done (stuffCells 7 bits) = judgeUnstuffed done bits := by
    rw [stuffCells_seven, judgeFrom_seven]
    exact h
  induction bits generalizing done n with
  | nil =>
    rcases Nat.lt_or_eq_of_le hn with hlt | rfl
    · rw [stuffCells_nil hlt]; rfl
    · rfl
  | cons b bits ih =>
    have below (m : Nat) (hm : m < 7) :
        judgeFrom m done (stuffCells m (b :: bits)) = judgeUnstuffed done (b :: bits) := by
      rw [stuffCells_cons hm]
      by_cases hb : judgeBits (done ++ [b]) = .underWay
      · rw [judgeFrom_underWay hm hb, judgeUnstuffed_cons_underWay hb]
        refine ih _ _ (by split <;> omega) (fun h => ?_)
        rw [stuffCells_seven, judgeFrom_seven]
        exact h
      · rw [judgeFrom_ended hm hb, judgeUnstuffed_cons_ended hb]
    rcases Nat.lt_or_eq_of_le hn with hlt | rfl
    · exact below n hlt
    · exact skip (below 0 (by decide))

theorem judgeCells_stuffCells (bits : List Bool) : judgeCells (stuffCells 0 bits) = judgeUnstuffed [] bits :=
  judgeFrom_stuffCells bits [] 0 (Nat.zero_le 7)

/-- Where a sender and its receivers stand after the first of the cells: so many 1 cells were sent since the last 0, some of
the bits are sent, and the other cells are those of the bits that remain. -/
theorem stuffCells_split (xs : List Bool) : ∀ {n : Nat} {bits ys : List Bool}, n ≤ 7 → stuffCells n bits = xs ++ ys →
    ∃ sent rest, bits = sent ++ rest ∧ onesAfter n xs ≤ 7 ∧ ys = stuffCells (onesAfter n xs) rest
      ∧ ∀ done more, judgeUnstuffed done sent = .underWay →
          judgeFrom n done (xs ++ more) = judgeFrom (onesAfter n xs) (done ++ sent) more := by
  induction xs with
  | nil =>
    intro n bits ys hn h
    exact ⟨[], bits, rfl, hn, h.symm, fun done more _ => by rw [List.append_nil]; rfl⟩
  | cons c xs ih =>
    intro n bits ys hn h
    rcases Nat.lt_or_eq_of_le hn with hlt | rfl
    · cases bits with
      | nil => rw [stuffCells_nil hlt] at h; contradiction
      | cons b bits =>
        rw [stuffCells_cons hlt] at h
        obtain ⟨rfl, htail⟩ := List.cons.inj h
        obtain ⟨sent, rest, rfl, hcount, hys, hjudge⟩ := ih (by split <;> omega) htail
        refine ⟨b :: sent, rest, rfl, hcount, hys, fun done more hway => ?_⟩
        have hb := judgeBits_of_judgeUnstuffed_cons hway
        rw [judgeUnstuffed_cons_underWay hb] at hway
        rw [List.cons_append, judgeFrom_underWay hlt hb, hjudge _ _ hway, List.append_assoc]
        rfl
    · rw [stuffCells_seven] at h
      obtain ⟨rfl, htail⟩ := List.cons.inj h
      obtain ⟨sent, rest, hbits, hcount, hys, hjudge⟩ := ih (Nat.zero_le 7) htail
      exact ⟨sent, rest, hbits, hcount, hys, hjudge⟩

theorem stuffCells_no_eight_ones (bits : List Bool) : ¬List.replicate 8 true <:+: stuffCells 0 bits := by
  rintro ⟨before, after, h⟩
  obtain ⟨-, -, -, hcount, -, -⟩ := stuffCells_split _ (Nat.zero_le 7) h.symm
  rw [onesAfter_append_replicate] at hcount
  omega

/-- A receiver that reads a 1 in a stuff cell breaks the frame there, while bits of it are still to come. -/
theorem judgeCells_stuff_cell_one {bits before after rest : List Bool}
    (hcells : stuffCells 0 bits = before ++ List.replicate 7 true ++ false :: after) (hafter : after ≠ [])
    (hway : ∀ sent left, bits = sent ++ left → left ≠ [] → judgeUnstuffed [] sent = .underWay) :
    judgeCells (before ++ List.replicate 7 true ++ true :: rest) = .broken .stuffError := by
  obtain ⟨sent, left, hbits, hcount, hleft, hjudge⟩ := stuffCells_split _ (Nat.zero_le 7) hcells
  have hseven : onesAfter 0 (before ++ List.replicate 7 true) = 7 := by
    rw [onesAfter_append_replicate] at hcount ⊢
    omega
  rw [hseven] at hleft hjudge
  have hne : left ≠ [] := by
    rintro rfl
    rw [stuffCells_seven, stuffCells_nil (by decide)] at hleft
    exact hafter (List.cons.inj hleft).2
  exact (hjudge [] (true :: rest) (hway sent left hbits hne)).trans (judgeFrom_seven _ rest true)

/-! ### Bytes and bits -/

theorem bitsByte_byteBits (b : Byte) : bitsByte (byteBits b) = b := by
  apply BitVec.eq_of_getLsbD_eq
  intro i hi
  simp only [bitsByte, byteBits, List.foldl_cons, List.foldl_nil]
  interval_cases i <;> simp

theorem bytesBits_length (bytes : List Byte) : (bytesBits bytes).length = 8 * bytes.length := by
  induction bytes with
  | nil => rfl
  | cons b bytes ih =>
    rw [bytesBits, List.length_append, ih, List.length_cons, Nat.mul_succ, Nat.add_comm]
    rfl

theorem bitsBytes_short {bits : List Bool} (h : bits.length < 8) : bitsBytes bits = [] := by
  unfold bitsBytes
  split
  · simp only [List.length_cons] at h
    omega
  · rfl

theorem bitsBytes_byteBits_append (b : Byte) (bits : List Bool) :
    bitsBytes (byteBits b ++ bits) = b :: bitsBytes bits :=
  congrArg (· :: bitsBytes bits) (bitsByte_byteBits b)

/-- The first bits of some bytes hold the bytes they complete. -/
theorem bitsBytes_take (bytes : List Byte) (l : Nat) :
    bitsBytes ((bytesBits bytes).take l) = bytes.take (l / 8) := by
  induction bytes generalizing l with
  | nil => rw [bytesBits, List.take_nil, List.take_nil]; rfl
  | cons b bytes ih =>
    rcases Nat.lt_or_ge l 8 with hlt | hge
    · rw [Nat.div_eq_of_lt hlt, List.take_zero]
      exact bitsBytes_short (Nat.lt_of_le_of_lt (List.length_take_le _ _) hlt)
    · obtain ⟨l, rfl⟩ := Nat.exists_eq_add_of_le hge
      have htake : (bytesBits (b :: bytes)).take (8 + l) = byteBits b ++ (bytesBits bytes).take l :=
        List.take_length_add_append (l₁ := byteBits b) l
      have hdiv : (8 + l) / 8 = l / 8 + 1 := by omega
      rw [htake, hdiv, bitsBytes_byteBits_append, ih, List.take_succ_cons]

/-! ### The judgement of the bits of a frame (R146) -/

theorem judgeBits_short {bits : List Bool} (h : bits.length < 16) : judgeBits bits = .underWay := if_pos h

section
variable {b0 n : Byte} {tail : List Byte} {l : Nat}

/-- Byte 1, once its last bit is read, gives the body length. -/
theorem bodyLength_take (hlow : 16 ≤ l) :
    (bitsBytes ((bytesBits (b0 :: n :: tail)).take l)).getD 1 0 = n := by
  obtain ⟨m, hm⟩ := Nat.exists_eq_add_of_le (show 2 ≤ l / 8 by omega)
  rw [bitsBytes_take, hm, Nat.add_comm, List.take_succ_cons, List.take_succ_cons]
  rfl

theorem take_bits_length (hlen : l ≤ 8 * (b0 :: n :: tail).length) :
    ((bytesBits (b0 :: n :: tail)).take l).length = l := by
  rw [List.length_take, bytesBits_length, Nat.min_eq_left hlen]

theorem judgeBits_take_long (hlow : 16 ≤ l) (hlen : l ≤ 8 * (b0 :: n :: tail).length) (hn : 12 < n.toNat) :
    judgeBits ((bytesBits (b0 :: n :: tail)).take l) = .broken .bodyLength := by
  simp only [judgeBits, bodyLength_take hlow, take_bits_length hlen]
  rw [if_neg (Nat.not_lt.mpr hlow), if_pos hn]

theorem judgeBits_take_underWay (hlen : l ≤ 8 * (b0 :: n :: tail).length) (hn : n.toNat ≤ 12)
    (hl : l < 8 * (5 + n.toNat)) : judgeBits ((bytesBits (b0 :: n :: tail)).take l) = .underWay := by
  rcases Nat.lt_or_ge l 16 with hshort | hlow
  · exact judgeBits_short ((take_bits_length hlen).symm ▸ hshort)
  · simp only [judgeBits, bodyLength_take hlow, take_bits_length hlen]
    rw [if_neg (Nat.not_lt.mpr hlow), if_neg (Nat.not_lt.mpr hn), if_pos hl]

end

/-- At the end of the CRC byte the frame is judged by it. -/
theorem judgeBits_whole {b0 n b2 b3 crc : Byte} {body : List Byte} (hn : n.toNat ≤ 12) (hbody : body.length = n.toNat) :
    judgeBits (bytesBits (b0 :: n :: b2 :: b3 :: body ++ [crc]))
      = if crc8 (b0 :: n :: b2 :: b3 :: body) = crc then .wellFormed (b0 :: n :: b2 :: b3 :: body)
        else .broken .crcMismatch := by
  have hlen : (b0 :: n :: b2 :: b3 :: body).length = 4 + n.toNat := by
    simp only [List.length_cons, hbody]
    omega
  have hwhole : (b0 :: n :: b2 :: b3 :: body ++ [crc]).length = 5 + n.toNat := by
    rw [List.length_append, hlen]
    simp only [List.length_singleton]
    omega
  have hbits : (bytesBits (b0 :: n :: b2 :: b3 :: body ++ [crc])).length = 8 * (5 + n.toNat) := by
    rw [bytesBits_length, hwhole]
  have hbytes : bitsBytes (bytesBits (b0 :: n :: b2 :: b3 :: body ++ [crc])) = b0 :: n :: b2 :: b3 :: body ++ [crc] := by
    have htake := bitsBytes_take (b0 :: n :: b2 :: b3 :: body ++ [crc]) (8 * (5 + n.toNat))
    rwa [List.take_of_length_le (Nat.le_of_eq hbits), Nat.mul_div_cancel_left _ (by decide),
      List.take_of_length_le (Nat.le_of_eq hwhole)] at htake
  have hlength : (b0 :: n :: b2 :: b3 :: body ++ [crc]).getD 1 0 = n := rfl
  have hdata : (b0 :: n :: b2 :: b3 :: body ++ [crc]).take (4 + n.toNat) = b0 :: n :: b2 :: b3 :: body :=
    List.take_left' hlen
  have hcrc : (b0 :: n :: b2 :: b3 :: body ++ [crc]).getD (4 + n.toNat) 0 = crc := by
    rw [← hlen, List.getD_append_right _ _ _ _ (Nat.le_refl _), Nat.sub_self]
    rfl
  simp only [judgeBits, hbytes, hlength, hbits, hdata, hcrc]
  rw [if_neg (by omega), if_neg (Nat.not_lt.mpr hn), if_neg (Nat.lt_irrefl _)]

/-- A frame of a legal length is under way until its last bit is read. -/
theorem judgeUnstuffed_part {b0 n b2 b3 crc : Byte} {body : List Byte} (hn : n.toNat ≤ 12)
    (hbody : body.length = n.toNat) (sent left : List Bool)
    (hbits : bytesBits (b0 :: n :: b2 :: b3 :: body ++ [crc]) = sent ++ left) (hleft : left ≠ []) :
    judgeUnstuffed [] sent = .underWay := by
  have hwhole : (b0 :: n :: b2 :: b3 :: body ++ [crc]).length = 5 + n.toNat := by
    simp only [List.length_append, List.length_cons, List.length_nil, hbody]
    omega
  have hsum : sent.length + left.length = 8 * (5 + n.toNat) := by
    rw [← List.length_append, ← hbits, bytesBits_length, hwhole]
  have hpos := List.length_pos_of_ne_nil hleft
  refine judgeUnstuffed_underWay sent [] (fun l _ hl => ?_)
  have htake : sent.take l = (bytesBits (b0 :: n :: b2 :: b3 :: body ++ [crc])).take l := by
    rw [hbits, List.take_append_of_le_length hl]
  rw [List.nil_append, htake]
  have hlen : l ≤ 8 * (b0 :: n :: b2 :: b3 :: body ++ [crc]).length := by
    rw [hwhole]
    omega
  exact judgeBits_take_underWay hlen hn (by omega)

/-- The judgement of a whole frame of a legal length rests on its CRC byte. -/
theorem judgeCells_frame {b0 n b2 b3 crc : Byte} {body : List Byte} (hn : n.toNat ≤ 12) (hbody : body.length = n.toNat) :
    judgeCells (stuffCells 0 (bytesBits (b0 :: n :: b2 :: b3 :: body ++ [crc])))
      = if crc8 (b0 :: n :: b2 :: b3 :: body) = crc then .wellFormed (b0 :: n :: b2 :: b3 :: body)
        else .broken .crcMismatch := by
  have hwhole : (b0 :: n :: b2 :: b3 :: body ++ [crc]).length = 5 + n.toNat := by
    simp only [List.length_append, List.length_cons, List.length_nil, hbody]
    omega
  have hbits : (bytesBits (b0 :: n :: b2 :: b3 :: body ++ [crc])).length = 8 * (5 + n.toNat) := by
    rw [bytesBits_length, hwhole]
  rw [judgeCells_stuffCells]
  refine judgeUnstuffed_of_first ?_ _ [] _ (by omega) (Nat.le_of_eq hbits.symm) (fun l _ hl => ?_) ?_
  · split <;> simp
  · have hlen : l ≤ 8 * (b0 :: n :: b2 :: b3 :: body ++ [crc]).length := hwhole ▸ Nat.le_of_lt hl
    exact judgeBits_take_underWay hlen hn hl
  · rw [List.nil_append, List.take_of_length_le (Nat.le_of_eq hbits)]
    exact judgeBits_whole hn hbody

theorem judgeCells_frameCells {b0 n b2 b3 : Byte} {body : List Byte} (hn : n.toNat ≤ 12) (hbody : body.length = n.toNat) :
    judgeCells (frameCells (b0 :: n :: b2 :: b3 :: body)) = .wellFormed (b0 :: n :: b2 :: b3 :: body) :=
  (judgeCells_frame hn hbody).trans (if_pos rfl)

theorem judgeCells_long_body {b0 n : Byte} {tail : List Byte} (hn : 12 < n.toNat) :
    judgeCells (stuffCells 0 (bytesBits (b0 :: n :: tail))) = .broken .bodyLength := by
  have hbits : (bytesBits (b0 :: n :: tail)).length = 8 * (b0 :: n :: tail).length := bytesBits_length _
  have hlen : 16 ≤ 8 * (b0 :: n :: tail).length := by
    simp only [List.length_cons]
    omega
  rw [judgeCells_stuffCells]
  refine judgeUnstuffed_of_first (by simp) _ [] 16 (by decide) (hbits ▸ hlen) (fun l _ hl => ?_) ?_
  · exact judgeBits_short (Nat.lt_of_le_of_lt (List.length_take_le _ _) hl)
  · exact judgeBits_take_long (Nat.le_refl 16) hlen hn

end Sys2Proof

namespace Sys2Proof.Machine

/-! ### Start of frame and broken frame (R141, R142, R146) -/

theorem startAccepted_eq_true_iff (l : Line) (highCells : Nat) :
    startAccepted l highCells = true ↔ l.state = .free ∨ (l.state = .waitFree ∧ 11 ≤ highCells) := by
  cases h : l.state with
  | inactive => simp [startAccepted, h]
  | waitFree => simp [startAccepted, h]
  | free => simp [startAccepted, h]
  | inFrame role => simp [startAccepted, h]

theorem exec_startOfFrame_accepted {s : State} {highCells : Nat}
    (h : s.line.state = .free ∨ (s.line.state = .waitFree ∧ 11 ≤ highCells)) :
    exec (.startOfFrame highCells) s =
      .next { s with line := { s.line with state := .inFrame .receiver, sofTach := s.tach.count, ackDriven := false } } :=
  if_pos ((startAccepted_eq_true_iff s.line highCells).mpr h)

theorem exec_startOfFrame_early {s : State} {highCells : Nat} (hwait : s.line.state = .waitFree) (hlow : highCells < 11) :
    exec (.startOfFrame highCells) s = .next s := by
  refine if_neg (fun h => ?_)
  rcases (startAccepted_eq_true_iff s.line highCells).mp h with hfree | ⟨-, hhigh⟩
  · rw [hwait] at hfree
    contradiction
  · omega

theorem wellFormed_brokenFrame_iff (cells : List Bool) :
    WellFormed (.brokenFrame cells) = true ↔ ∃ cause, judgeCells cells = .broken cause := by
  cases h : judgeCells cells with
  | underWay => simp [WellFormed, h]
  | broken cause => simp [WellFormed, h]
  | wellFormed data => simp [WellFormed, h]

theorem exec_brokenFrame_of_wellFormed {s : State} {cells : List Bool} (h : WellFormed (.brokenFrame cells) = true)
    (hline : s.line.state = .inFrame .receiver) :
    exec (.brokenFrame cells) s = .next { s with line := { s.line with state := .waitFree } } := by
  obtain ⟨cause, hcause⟩ := (wellFormed_brokenFrame_iff cells).mp h
  have hreceiving : s.receiving = true := by rw [State.receiving, hline]; rfl
  calc exec (.brokenFrame cells) s = execBrokenFrame cells s := rfl
    _ = if s.receiving then .next { s with line := { s.line with state := .waitFree } } else .next s := by
      rw [execBrokenFrame, hcause]
    _ = _ := if_pos hreceiving

/-- Settles O36: the three causes of a broken frame through the bits its cells stand for. -/
theorem startOfFrameAndBrokenFrame : Obligations.StartOfFrameAndBrokenFrame := by
  refine ⟨fun s highCells => ⟨exec_startOfFrame_accepted, exec_startOfFrame_early⟩,
    fun s cells => exec_brokenFrame_of_wellFormed, fun rest => rfl, ?_, fun b0 n b2 b3 body hn => judgeCells_long_body hn⟩
  intro b0 n b2 b3 crc body hn hbody
  refine ⟨fun hcrc => ?_, fun before after rest hcells hafter => ?_⟩
  · exact (judgeCells_frame hn hbody).trans (if_neg (Ne.symm hcrc))
  · exact judgeCells_stuff_cell_one hcells hafter (judgeUnstuffed_part hn hbody)

end Sys2Proof.Machine
end

section
/-! PROOF. The fields of a frame in its bytes (section 8.6), and what another station reads in the cells of a frame (R144 to
R146, R160, R162). -/

namespace Sys2Proof

/-! ### Fields in bytes -/

theorem append_toNat {n m : Nat} (x : BitVec n) (y : BitVec m) : (x ++ y).toNat = 2 ^ m * x.toNat + y.toNat := by
  rw [BitVec.toNat_append, ← Nat.shiftLeft_add_eq_or_of_lt y.isLt, Nat.shiftLeft_eq, Nat.mul_comm]

theorem byte_eq_ofNat {b : Byte} {n : Nat} (h : b.toNat = n) : b = BitVec.ofNat 8 n := by
  rw [← h, BitVec.ofNat_toNat, BitVec.setWidth_eq]

/-- Eight bits of a field, as a byte. -/
theorem extract_byte_eq {w : Nat} (x : BitVec w) (start : Nat) :
    x.extractLsb' start 8 = BitVec.ofNat 8 (x.toNat / 2 ^ start % 256) := by
  refine byte_eq_ofNat ?_
  rw [BitVec.extractLsb'_toNat, Nat.shiftRight_eq_div_pow]

theorem wordBytes_eq (w : Word) :
    wordBytes w = [BitVec.ofNat 8 (w.toNat / 256), BitVec.ofNat 8 (w.toNat % 256)] := by
  have hhi : w.toNat / 256 % 256 = w.toNat / 256 := Nat.mod_eq_of_lt (by have := w.isLt; omega)
  have hlo : w.toNat / 2 ^ 0 % 256 = w.toNat % 256 := by rw [Nat.pow_zero, Nat.div_one]
  rw [wordBytes, extract_byte_eq, extract_byte_eq, hlo, show (2 : Nat) ^ 8 = 256 from rfl, hhi]

theorem idBytes_eq (id : LetterId) :
    idBytes id =
      [BitVec.ofNat 8 (16 * id.origin.toNat + id.seq.toNat / 256), BitVec.ofNat 8 (id.seq.toNat % 256)] := by
  have hword : id.toWord.toNat = 4096 * id.origin.toNat + id.seq.toNat := append_toNat id.origin id.seq
  have hhi : (4096 * id.origin.toNat + id.seq.toNat) / 256 = 16 * id.origin.toNat + id.seq.toNat / 256 := by omega
  have hlo : (4096 * id.origin.toNat + id.seq.toNat) % 256 = id.seq.toNat % 256 := by omega
  rw [idBytes, wordBytes_eq, hword, hhi, hlo]

theorem codeBytes_eq (x : Code) :
    codeBytes x =
      [BitVec.ofNat 8 (x.toNat / 256 ^ 5 % 256), BitVec.ofNat 8 (x.toNat / 256 ^ 4 % 256),
        BitVec.ofNat 8 (x.toNat / 256 ^ 3 % 256), BitVec.ofNat 8 (x.toNat / 256 ^ 2 % 256),
        BitVec.ofNat 8 (x.toNat / 256 ^ 1 % 256), BitVec.ofNat 8 (x.toNat / 256 ^ 0 % 256)] := by
  simp only [codeBytes, extract_byte_eq]
  rfl

theorem ofBool_toNat (b : Bool) : (BitVec.ofBool b).toNat = if b then 1 else 0 := by cases b <;> rfl

theorem headerBytes_eq (kind : BitVec 4) (h : Header) (n : Nat) :
    headerBytes kind h n =
      [BitVec.ofNat 8 (16 * kind.toNat + h.station.toNat), BitVec.ofNat 8 n,
        BitVec.ofNat 8 ((if h.tail then 128 else 0) + (if h.scanner then 64 else 0) + h.position.toNat / 256),
        BitVec.ofNat 8 (h.position.toNat % 256)] := by
  have hfirst : kind ++ h.station = BitVec.ofNat 8 (16 * kind.toNat + h.station.toNat) :=
    byte_eq_ofNat (append_toNat kind h.station)
  have hposition : (h.position.extractLsb' 8 6).toNat = h.position.toNat / 256 := by
    rw [BitVec.extractLsb'_toNat, Nat.shiftRight_eq_div_pow]
    exact Nat.mod_eq_of_lt (by have := h.position.isLt; omega)
  have hroles : BitVec.ofBool h.tail ++ BitVec.ofBool h.scanner ++ h.position.extractLsb' 8 6 =
      BitVec.ofNat 8 ((if h.tail then 128 else 0) + (if h.scanner then 64 else 0) + h.position.toNat / 256) := by
    refine byte_eq_ofNat ?_
    rw [append_toNat, append_toNat, ofBool_toNat, ofBool_toNat, hposition]
    split <;> split <;> omega
  have hlast : h.position.extractLsb' 0 8 = BitVec.ofNat 8 (h.position.toNat % 256) := by
    rw [extract_byte_eq, Nat.pow_zero, Nat.div_one]
  rw [headerBytes, hfirst, hroles, hlast]

/-! ### Fields read back from bytes -/

theorem bytesWord_wordBytes (w : Word) : bytesWord (w.extractLsb' 8 8) (w.extractLsb' 0 8) = w :=
  BitVec.extractLsb'_append_extractLsb'

theorem ofWord_toWord (id : LetterId) : LetterId.ofWord id.toWord = id := by
  have horigin : id.toWord.extractLsb' 12 4 = id.origin := BitVec.extractLsb'_append_eq_left
  have hseq : id.toWord.extractLsb' 0 12 = id.seq := BitVec.extractLsb'_append_eq_right
  rw [LetterId.ofWord, horigin, hseq]

theorem bytesId_idBytes (id : LetterId) : bytesId (id.toWord.extractLsb' 8 8) (id.toWord.extractLsb' 0 8) = id := by
  rw [bytesId, bytesWord_wordBytes, ofWord_toWord]

/-- Eight more bits at the low end of part of a field. -/
theorem extract_append_byte {w : Nat} (x : BitVec w) (start len : Nat) :
    x.extractLsb' (start + 8) len ++ x.extractLsb' start 8 = x.extractLsb' start (len + 8) :=
  BitVec.extractLsb'_append_extractLsb'_eq_extractLsb' rfl

theorem bytesCode_codeBytes (c : Code) :
    bytesCode (c.extractLsb' 40 8) (c.extractLsb' 32 8) (c.extractLsb' 24 8) (c.extractLsb' 16 8) (c.extractLsb' 8 8)
      (c.extractLsb' 0 8) = c := by
  rw [bytesCode, extract_append_byte, extract_append_byte, extract_append_byte, extract_append_byte, extract_append_byte]
  exact BitVec.extractLsb'_eq_self

theorem readHeader_headerBytes (kind : BitVec 4) (h : Header) :
    readHeader (kind ++ h.station)
      (BitVec.ofBool h.tail ++ BitVec.ofBool h.scanner ++ h.position.extractLsb' 8 6) (h.position.extractLsb' 0 8) = h := by
  have hstation : (kind ++ h.station).extractLsb' 0 4 = h.station := BitVec.extractLsb'_append_eq_right
  have hhigh : (BitVec.ofBool h.tail ++ BitVec.ofBool h.scanner ++ h.position.extractLsb' 8 6).extractLsb' 0 6
      = h.position.extractLsb' 8 6 := BitVec.extractLsb'_append_eq_right
  have hposition : h.position.extractLsb' 8 6 ++ h.position.extractLsb' 0 8 = h.position :=
    BitVec.extractLsb'_append_extractLsb'
  have htail : (BitVec.ofBool h.tail ++ BitVec.ofBool h.scanner ++ h.position.extractLsb' 8 6).getLsbD 7 = h.tail := by
    rw [BitVec.getLsbD_append, BitVec.getLsbD_append]
    cases h.tail <;> rfl
  have hscanner :
      (BitVec.ofBool h.tail ++ BitVec.ofBool h.scanner ++ h.position.extractLsb' 8 6).getLsbD 6 = h.scanner := by
    rw [BitVec.getLsbD_append, BitVec.getLsbD_append]
    cases h.scanner <;> rfl
  rw [readHeader, hstation, hhigh, hposition, htail, hscanner]

/-! ### A frame read back -/

theorem commandOfData_frameData (kind : BitVec 4) (h : Header) (body : List Byte) :
    commandOfData (frameData kind h body) = some (commandOf kind h body) := by
  have hkind : (kind ++ h.station).extractLsb' 4 4 = kind := BitVec.extractLsb'_append_eq_left
  calc commandOfData (frameData kind h body)
      = some (commandOf ((kind ++ h.station).extractLsb' 4 4)
          (readHeader (kind ++ h.station)
            (BitVec.ofBool h.tail ++ BitVec.ofBool h.scanner ++ h.position.extractLsb' 8 6)
            (h.position.extractLsb' 0 8)) body) := rfl
    _ = some (commandOf kind h body) := by rw [hkind, readHeader_headerBytes]

theorem judgeCells_frameData (kind : BitVec 4) (h : Header) {body : List Byte} (hbody : body.length ≤ 12) :
    judgeCells (frameCells (frameData kind h body)) = .wellFormed (frameData kind h body) := by
  have hlength : (BitVec.ofNat 8 body.length).toNat = body.length := by
    rw [BitVec.toNat_ofNat]
    exact Nat.mod_eq_of_lt (by omega)
  exact judgeCells_frameCells (hlength.le.trans hbody) hlength.symm

/-- The cells of a frame are read back as the row of its kind, header and body. -/
theorem commandOfCells_frameCells (kind : BitVec 4) (h : Header) {body : List Byte} (hbody : body.length ≤ 12) :
    commandOfCells (frameCells (frameData kind h body)) = some (commandOf kind h body) := by
  rw [commandOfCells, judgeCells_frameData kind h hbody]
  exact commandOfData_frameData kind h body

/-! ### The row of each kind of body (R162) -/

section
variable (h : Header) (id : LetterId)

theorem commandOf_claim (k : Byte) : commandOf 2 h (idBytes id ++ [k]) = .claimReceived h id k :=
  congrArg (Instr.claimReceived h · k) (bytesId_idBytes id)

theorem commandOf_release (k r : Byte) : commandOf 3 h (idBytes id ++ [k, r]) = .releaseReceived h id k r :=
  congrArg (Instr.releaseReceived h · k r) (bytesId_idBytes id)

theorem commandOf_diverted (k : Byte) (t : Word) :
    commandOf 4 h (idBytes id ++ [k] ++ wordBytes t) = .divertedReceived h id k t :=
  congrArg₂ (Instr.divertedReceived h · k ·) (bytesId_idBytes id) (bytesWord_wordBytes t)

theorem commandOf_sight (age len : Word) :
    commandOf 5 h (idBytes id ++ wordBytes age ++ wordBytes len) = .sightReceived h id age len := by
  calc commandOf 5 h (idBytes id ++ wordBytes age ++ wordBytes len)
      = .sightReceived h (bytesId (id.toWord.extractLsb' 8 8) (id.toWord.extractLsb' 0 8))
          (bytesWord (age.extractLsb' 8 8) (age.extractLsb' 0 8))
          (bytesWord (len.extractLsb' 8 8) (len.extractLsb' 0 8)) := rfl
    _ = .sightReceived h id age len := by rw [bytesId_idBytes, bytesWord_wordBytes, bytesWord_wordBytes]

theorem commandOf_read_failed (o q w : Byte) :
    commandOf 6 h (idBytes id ++ [o, q, w]) = .readReceived h id o q w none :=
  congrArg (Instr.readReceived h · o q w none) (bytesId_idBytes id)

theorem commandOf_read_good (o q w : Byte) (c : Code) :
    commandOf 6 h (idBytes id ++ [o, q, w] ++ codeBytes c) = .readReceived h id o q w (some c) :=
  congrArg₂ (fun i x => Instr.readReceived h i o q w (some x)) (bytesId_idBytes id) (bytesCode_codeBytes c)

theorem commandOf_lost : commandOf 7 h (idBytes id) = .lostReceived h id :=
  congrArg (Instr.lostReceived h ·) (bytesId_idBytes id)

theorem commandOf_join (p : Byte) (c : Word) : commandOf 11 h ([p] ++ wordBytes c) = .joinReceived h p c :=
  congrArg (Instr.joinReceived h p ·) (bytesWord_wordBytes c)

end

/-! ### Every received-frame command read back (R160) -/

theorem bodyLength_le {c : Instr} (hwell : WellFormed c = true) {kind : BitVec 4} {h : Header} {body : List Byte}
    (hframe : frameOf c = some (kind, h, body)) : body.length ≤ 12 := by
  cases c
  case jamReceived g r => exact Laws.BodyLength.jamReceived g r hwell kind h body hframe
  case clearReceived g => exact Laws.BodyLength.clearReceived g hwell kind h body hframe
  case claimReceived g id k => exact Laws.BodyLength.claimReceived g id k hwell kind h body hframe
  case releaseReceived g id k r => exact Laws.BodyLength.releaseReceived g id k r hwell kind h body hframe
  case divertedReceived g id k t => exact Laws.BodyLength.divertedReceived g id k t hwell kind h body hframe
  case sightReceived g id age len => exact Laws.BodyLength.sightReceived g id age len hwell kind h body hframe
  case readReceived g id o q w code => exact Laws.BodyLength.readReceived g id o q w code hwell kind h body hframe
  case lostReceived g id => exact Laws.BodyLength.lostReceived g id hwell kind h body hframe
  case pollReceived g t => exact Laws.BodyLength.pollReceived g t hwell kind h body hframe
  case joinReceived g p crc => exact Laws.BodyLength.joinReceived g p crc hwell kind h body hframe
  case ignoredFrameReceived g k b => exact Laws.BodyLength.ignoredFrameReceived g k b hwell kind h body hframe
  all_goals cases hframe

theorem commandOf_frameOf {c : Instr} (hwell : WellFormed c = true) {kind : BitVec 4} {h : Header} {body : List Byte}
    (hframe : frameOf c = some (kind, h, body)) : commandOf kind h body = c := by
  cases c
  case jamReceived g r => cases hframe; rfl
  case clearReceived g => cases hframe; rfl
  case claimReceived g id k => cases hframe; exact commandOf_claim h id k
  case releaseReceived g id k r => cases hframe; exact commandOf_release h id k r
  case divertedReceived g id k t => cases hframe; exact commandOf_diverted h id k t
  case sightReceived g id age len => cases hframe; exact commandOf_sight h id age len
  case readReceived g id o q w code =>
    cases code with
    | none => cases hframe; exact commandOf_read_failed h id o q w
    | some code => cases hframe; exact commandOf_read_good h id o q w code
  case lostReceived g id => cases hframe; exact commandOf_lost h id
  case pollReceived g t => cases hframe; rfl
  case joinReceived g p crc => cases hframe; exact commandOf_join h p crc
  case ignoredFrameReceived g k b =>
    cases hframe
    exact eq_of_beq (Bool.and_eq_true_iff.mp hwell).2
  all_goals cases hframe

theorem encodeFrame_readsBack {c : Instr} (hwell : WellFormed c = true) (hframe : frameOf c ≠ none) :
    (encodeFrame c).bind commandOfCells = some c := by
  obtain ⟨⟨kind, h, body⟩, hbody⟩ := Option.ne_none_iff_exists'.mp hframe
  calc (encodeFrame c).bind commandOfCells = commandOfCells (frameCells (frameData kind h body)) := by
        rw [encodeFrame, hbody]
        rfl
    _ = some (commandOf kind h body) := commandOfCells_frameCells kind h (bodyLength_le hwell hbody)
    _ = some c := by rw [commandOf_frameOf hwell hbody]

end Sys2Proof
end

section
/-! PROOF. The bytes and cells of this station's attempts (section 8.6, R143 to R145), what the levels read back call for (R148
to R150), and what another station reads in them. -/

namespace Sys2Proof.Machine

/-! ### The bodies of the frames this station sends -/

theorem frameBody_length_le (s : State) (c : Conditions) (age : Word) (d : Byte) (f : Frame) :
    (frameBody age (statusBody s c d) f).length ≤ 12 := by
  cases f with
  | jam r => exact (by decide : 1 ≤ 12)
  | clear => exact (by decide : 0 ≤ 12)
  | claim id k => exact (by decide : 3 ≤ 12)
  | release id k r => exact (by decide : 4 ≤ 12)
  | diverted id k t => exact (by decide : 5 ≤ 12)
  | sight id a len => exact (by decide : 6 ≤ 12)
  | read v =>
    obtain ⟨id, verdict, sweeps⟩ := v
    cases verdict with
    | good code votes runnerUp q direction => exact (by decide : 11 ≤ 12)
    | failed reason => exact (by decide : 5 ≤ 12)
  | lost id => exact (by decide : 2 ≤ 12)
  | runout id st code =>
    cases code with
    | none => exact (by decide : 3 ≤ 12)
    | some code => exact (by decide : 9 ≤ 12)
  | status => exact (by decide : 12 ≤ 12)
  | join n crc => exact (by decide : 3 ≤ 12)

/-- The states of the four pockets in a byte, two bits each. -/
theorem pocketStates_eq (p3 p2 p1 p0 : PocketState) :
    pocketStateBits p3 ++ pocketStateBits p2 ++ pocketStateBits p1 ++ pocketStateBits p0 =
      BitVec.ofNat 8
        (64 * (pocketStateBits p3).toNat + 16 * (pocketStateBits p2).toNat + 4 * (pocketStateBits p1).toNat
          + (pocketStateBits p0).toNat) := by
  refine byte_eq_ofNat ?_
  rw [append_toNat, append_toNat, append_toNat]
  omega

theorem statusBody_eq (s : State) (c : Conditions) (d : Byte) :
    statusBody s c d =
      [BitVec.ofNat 8 c.topRank, BitVec.ofNat 8 (c.active.toNat / 256), BitVec.ofNat 8 (c.active.toNat % 256),
        BitVec.ofNat 8 (c.deltas.toNat / 256), BitVec.ofNat 8 (c.deltas.toNat % 256),
        BitVec.ofNat 8
          (64 * (pocketStateBits (s.pocket 3).state).toNat + 16 * (pocketStateBits (s.pocket 2).state).toNat
            + 4 * (pocketStateBits (s.pocket 1).state).toNat + (pocketStateBits (s.pocket 0).state).toNat),
        BitVec.ofNat 8 s.table.length, d, BitVec.ofNat 8 (s.counters.goodReads.toNat / 256),
        BitVec.ofNat 8 (s.counters.goodReads.toNat % 256), BitVec.ofNat 8 (s.counters.failedReads.toNat / 256),
        BitVec.ofNat 8 (s.counters.failedReads.toNat % 256)] := by
  rw [statusBody, wordBytes_eq, wordBytes_eq, wordBytes_eq, wordBytes_eq, pocketStates_eq]
  rfl

/-! ### An attempt at another station -/

theorem judgeCells_attempt (s : State) (c : Conditions) (age : Word) (d : Byte) (f : Frame) :
    judgeCells (stuffCells 0 (bytesBits (attemptBytes s c age d f))) = .wellFormed (attemptBytes s c age d f).dropLast := by
  rw [attemptBytes, List.dropLast_concat]
  exact judgeCells_frameData _ _ (frameBody_length_le s c age d f)

theorem commandOfCells_attempt (s : State) (c : Conditions) (age : Word) (d : Byte) (f : Frame) :
    commandOfCells (stuffCells 0 (bytesBits (attemptBytes s c age d f))) =
      some (commandOf (BitVec.ofNat 4 (frameKind f)) s.ownHeader (frameBody age (statusBody s c d) f)) :=
  commandOfCells_frameCells _ _ (frameBody_length_le s c age d f)

/-- RUNOUT has no owner (R162). -/
theorem commandOf_runout (h : Header) (body : List Byte) : commandOf 8 h body = .ignoredFrameReceived h 8 body := rfl

/-- STATUS has no owner (R162). -/
theorem commandOf_status (h : Header) (body : List Byte) : commandOf 10 h body = .ignoredFrameReceived h 10 body := rfl

theorem encodeFrame_poll (h : Header) (target : Byte) :
    encodeFrame (.pollReceived h target) =
      some
        (frameCells
          [BitVec.ofNat 8 (144 + h.station.toNat), 1,
            BitVec.ofNat 8 ((if h.tail then 128 else 0) + (if h.scanner then 64 else 0) + h.position.toNat / 256),
            BitVec.ofNat 8 (h.position.toNat % 256), target]) := by
  have hdata : encodeFrame (.pollReceived h target) = some (frameCells (headerBytes 9 h 1 ++ [target])) := rfl
  rw [hdata, headerBytes_eq]
  rfl

/-- Settles O54: the row a frame stands for and the row of its bytes are inverse to each other, and a sent frame's body has at
most 12 bytes. -/
theorem receivedFramesReadBack : Obligations.ReceivedFramesReadBack := by
  refine ⟨fun c hwell hframe => encodeFrame_readsBack hwell hframe, ?_, encodeFrame_poll⟩
  intro s c d id a age len tally crc k n h heard pocket hi lo id0 id1 codeByte pocketCode
  have hheard (f : Frame) :
      heard f = some (commandOf (BitVec.ofNat 4 (frameKind f)) h (frameBody age (statusBody s c d) f)) :=
    commandOfCells_attempt s c age d f
  have hpocket (p : PocketState) : (pocketStateBits p).toNat = pocketCode p := by cases p <;> rfl
  refine ⟨fun reason => ?jam, hheard .clear, ?claim, fun reason => ?release, ?diverted, ?sight,
    fun code votes runnerUp quality direction sweeps => ?good, fun reason sweeps => ?failed, ?lost, ?join,
    fun state => ?runout, ?status⟩
  case jam => cases reason <;> exact hheard (.jam _)
  case claim => exact (hheard _).trans (congrArg some (commandOf_claim h id pocket))
  case release =>
    refine (hheard _).trans (congrArg some ((commandOf_release h id pocket (releaseReasonByte reason)).trans ?_))
    cases reason <;> rfl
  case diverted => exact (hheard _).trans (congrArg some (commandOf_diverted h id pocket tally))
  case sight => exact (hheard _).trans (congrArg some (commandOf_sight h id age len))
  case good =>
    refine (hheard _).trans (congrArg some ((commandOf_read_good h id _ _ sweeps code).trans ?_))
    rw [BitVec.ofNat_toNat]
    cases direction <;> rfl
  case failed =>
    refine (hheard _).trans (congrArg some ((commandOf_read_failed h id _ 0 sweeps).trans ?_))
    cases reason <;> rfl
  case lost => exact (hheard _).trans (congrArg some (commandOf_lost h id))
  case join => exact (hheard _).trans (congrArg some (commandOf_join h (BitVec.ofNat 8 n) crc))
  case runout =>
    have hid : idBytes id = [id0, id1] := idBytes_eq id
    refine ⟨?none, fun code => ?some⟩
    case none =>
      refine (hheard _).trans (congrArg some ((commandOf_runout h _).trans ?_))
      rw [frameBody, hid]
      cases state <;> rfl
    case some =>
      refine (hheard _).trans (congrArg some ((commandOf_runout h _).trans ?_))
      rw [frameBody, hid]
      simp only [codeBytes_eq]
      cases state <;> rfl
  case status =>
    refine (hheard _).trans (congrArg some ((commandOf_status h _).trans ?_))
    rw [frameBody, statusBody_eq, hpocket, hpocket, hpocket, hpocket]

end Sys2Proof.Machine
end

section
/-! PROOF. The bytes of this station's attempts written out (section 8.6, R144, R145), and the row the levels read back call
for (R148 to R150). -/

namespace Sys2Proof

theorem bytesBits_eq_flatMap (data : List Byte) : bytesBits data = data.flatMap byteBits := by
  induction data with
  | nil => rfl
  | cons b data ih => rw [bytesBits, ih, List.flatMap_cons]

theorem crc8Bit_eq (reg : Byte) (bit : Bool) :
    crc8Bit reg bit = if reg.getLsbD 7 = bit then reg <<< 1 else (reg <<< 1) ^^^ 0x07#8 := by
  by_cases h : reg.getLsbD 7 = bit
  · rw [if_pos h, crc8Bit, if_neg (fun hne => bne_iff_ne.mp hne h)]
  · rw [if_neg h, crc8Bit, if_pos (bne_iff_ne.mpr h)]

end Sys2Proof

namespace Sys2Proof.Machine

/-! ### The top rank (R186) -/

theorem topRank_of_none_active {c : Conditions} (h : ∀ i, i < 12 → c.active.getLsbD i = false) : c.topRank = 0 := by
  have hfind : (List.range 12).find? (fun i => c.active.getLsbD i) = none := by
    rw [List.find?_eq_none]
    intro i hi
    rw [h i (List.mem_range.mp hi)]
    exact Bool.false_ne_true
  rw [Conditions.topRank, hfind]

theorem topRank_of_first_active {c : Conditions} {i : Nat} (hi : i < 12) (hactive : c.active.getLsbD i = true)
    (hbefore : ∀ j, j < i → c.active.getLsbD j = false) : c.topRank = i + 1 := by
  have hfind : (List.range 12).find? (fun i => c.active.getLsbD i) = some i := by
    rw [List.find?_range_eq_some]
    exact ⟨hactive, List.mem_range.mpr hi, fun j hj => by rw [hbefore j hj]; rfl⟩
  rw [Conditions.topRank, hfind]

/-! ### The bytes of an attempt (section 8.6) -/

/-- The header and body bytes of a frame of this station, as section 8.6 lays them out. -/
def State.ownData (s : State) (kind : Nat) (body : List Byte) : List Byte :=
  [BitVec.ofNat 8 (16 * kind + s.straps.station.toNat), BitVec.ofNat 8 body.length,
    BitVec.ofNat 8 ((if s.cfg.tail then 128 else 0) + (if s.cfg.scanner then 64 else 0) + s.cfg.position.toNat / 256),
    BitVec.ofNat 8 (s.cfg.position.toNat % 256)] ++ body

theorem frameKind_lt (f : Frame) : frameKind f < 16 := by
  cases f <;> simp [frameKind]

theorem attemptBytes_eq (s : State) (c : Conditions) (age : Word) (d : Byte) (f : Frame) {body : List Byte}
    (hbody : frameBody age (statusBody s c d) f = body) :
    attemptBytes s c age d f = s.ownData (frameKind f) body ++ [crc8 (s.ownData (frameKind f) body)] := by
  have hdata : frameData (BitVec.ofNat 4 (frameKind f)) s.ownHeader body = s.ownData (frameKind f) body := by
    have hkind : (BitVec.ofNat 4 (frameKind f)).toNat = frameKind f := by
      rw [BitVec.toNat_ofNat]
      exact Nat.mod_eq_of_lt (frameKind_lt f)
    rw [frameData, headerBytes_eq, hkind]
    rfl
  rw [attemptBytes, hbody, hdata]

theorem ageAt_sight_toNat (count a : Pos) (id : LetterId) (len : Word) :
    (ageAt count (.sight id a len)).toNat = (count.toNat + 65536 - a.toNat) % 65536 := by
  have hsub : (count - a).toNat = (2 ^ 16 - a.toNat + count.toNat) % 2 ^ 16 := BitVec.toNat_sub count a
  have ha := a.isLt
  calc (ageAt count (.sight id a len)).toNat = (count - a).toNat := rfl
    _ = (2 ^ 16 - a.toNat + count.toNat) % 2 ^ 16 := hsub
    _ = (count.toNat + 65536 - a.toNat) % 65536 := by congr 1; omega

/-! ### The levels read back (R148 to R150) -/

theorem readBack_same (inByte0 sent : Bool) : readBack inByte0 sent sent = none := if_pos rfl

theorem readBack_other (inByte0 sent : Bool) :
    readBack inByte0 sent (!sent) = some (if inByte0 && sent then .arbitrationLost else .bitError) := by
  rw [readBack, if_neg (by cases sent <;> decide)]
  split <;> rfl

/-- Cells that read as sent carry the attempt on to the next. -/
theorem followAttempt_append (before cells levels : List Bool) (i : Nat) :
    followAttempt i (before ++ cells) (before ++ levels) = followAttempt (i + before.length) cells levels := by
  induction before generalizing i with
  | nil => rfl
  | cons b before ih =>
    rw [List.cons_append, List.cons_append, followAttempt, readBack_same, ih, List.length_cons, Nat.add_right_comm,
      Nat.add_assoc]

theorem followAttempt_no_levels (i : Nat) (cells : List Bool) : followAttempt i cells [] = none := by
  cases cells <;> rfl

theorem followAttempt_part (before cells : List Bool) : followAttempt 0 (before ++ cells) before = none := by
  have h := followAttempt_append before cells [] 0
  rwa [List.append_nil, followAttempt_no_levels] at h

theorem followAttempt_ack (cells later : List Bool) (ack : Bool) :
    followAttempt 0 cells (cells ++ ack :: later) = some (.attemptEnd (!ack)) := by
  have h := followAttempt_append cells [] (ack :: later) 0
  rwa [List.append_nil] at h

theorem followAttempt_wrong (before after later : List Bool) (sent : Bool) :
    followAttempt 0 (before ++ sent :: after) (before ++ (!sent) :: later) =
      some (if before.length < 8 ∧ sent = true then .arbitrationLost else .bitError) := by
  rw [followAttempt_append, Nat.zero_add, followAttempt, readBack_other]
  simp only [Bool.and_eq_true, decide_eq_true_eq]

theorem tlCells_of_not_sender {s : State} (h : s.line.state ≠ .inFrame .sender) : s.tlCells = none := by
  rw [State.tlCells, State.tlBytes, if_neg h]
  rfl

theorem tlCells_of_sender {s : State} (h : s.line.state = .inFrame .sender) :
    s.tlCells = some (stuffCells 0 (bytesBits s.line.sending)) := by
  rw [State.tlCells, State.tlBytes, if_pos h]
  rfl

theorem attemptRow_of_not_sender {s : State} (h : s.line.state ≠ .inFrame .sender) (levels : List Bool) :
    s.attemptRow levels = none := by
  rw [State.attemptRow, tlCells_of_not_sender h]

theorem attemptRow_of_sender {s : State} (h : s.line.state = .inFrame .sender) (levels : List Bool) :
    s.attemptRow levels = followAttempt 0 (stuffCells 0 (bytesBits s.line.sending)) levels := by
  rw [State.attemptRow, tlCells_of_sender h]

/-! ### The stuff cells of an attempt (R143) -/

theorem stuffCells_of_seven_ones (bits : List Bool) :
    stuffCells 0 (List.replicate 7 true ++ bits) = List.replicate 7 true ++ false :: stuffCells 0 bits := by
  rw [stuffCells_replicate_append 0 7 (Nat.le_refl 7), Nat.zero_add, stuffCells_seven]

theorem stuffCells_of_few_ones {n : Nat} (hn : n < 7) :
    stuffCells 0 (List.replicate n true) = List.replicate n true := by
  have h := stuffCells_replicate_append 0 n (by omega) []
  rwa [Nat.zero_add, stuffCells_nil hn, List.append_nil] at h

theorem stuffCells_of_few_ones_zero {n : Nat} (hn : n < 7) (bits : List Bool) :
    stuffCells 0 (List.replicate n true ++ false :: bits) = List.replicate n true ++ false :: stuffCells 0 bits := by
  rw [stuffCells_replicate_append 0 n (by omega), Nat.zero_add, stuffCells_cons hn]
  rfl

/-- Settles O35: the layouts through the bytes of each field, the cells through the judgement of a whole frame, and the rows
through the cells that read as sent. -/
theorem attemptBytesFollowLayout : Obligations.AttemptBytesFollowLayout := by
  refine ⟨?bits, fun c => ⟨topRank_of_none_active, fun i => topRank_of_first_active⟩, ageAt_of_not_sight, ?bytes,
    judgeCells_attempt, ?stuffing, ?levels⟩
  case bits =>
    intro data bits
    have hbits : bytesBits data = bits := bytesBits_eq_flatMap data
    refine ⟨hbits, ?_⟩
    rw [crc8, hbits]
    exact congrArg (fun f : Byte → Bool → Byte => bits.foldl f 0xFF#8) (funext₂ crc8Bit_eq)
  case bytes =>
    intro s c d id a len tally crc k n hi lo first roles last id0 id1 age pocketCode codeByte sixBytes whole
    have hid : idBytes id = [id0, id1] := idBytes_eq id
    have hword (w : Word) : wordBytes w = [hi w, lo w] := wordBytes_eq w
    have hcode (x : Code) : codeBytes x = sixBytes x := codeBytes_eq x
    have hpocket (p : PocketState) : (pocketStateBits p).toNat = pocketCode p := by cases p <;> rfl
    have hbytes (age : Word) {f : Frame} {body : List Byte} (h : frameBody age (statusBody s c d) f = body) :
        attemptBytes s c age d f = whole ([first (frameKind f), BitVec.ofNat 8 body.length, roles, last] ++ body) :=
      attemptBytes_eq s c age d f h
    refine ⟨ageAt_sight_toNat _ a id len, ?sight, ?diverted, ?status, ?join, fun reason => ?jam, ?clear, ?claim,
      fun reason => ?release, fun code votes runnerUp quality direction sweeps => ?good, fun reason sweeps => ?failed, ?lost,
      fun state => ?runout⟩
    case sight =>
      have hbody : frameBody age (statusBody s c d) (.sight id a len) = [id0, id1, hi age, lo age, hi len, lo len] := by
        rw [frameBody, hid, hword, hword]
        rfl
      exact hbytes age hbody
    case diverted =>
      have hbody : frameBody 0 (statusBody s c d) (.diverted id k tally) = [id0, id1, pocketByte k, hi tally, lo tally] := by
        rw [frameBody, hid, hword]
        rfl
      exact hbytes 0 hbody
    case status =>
      have hstatus := statusBody_eq s c d
      rw [hpocket, hpocket, hpocket, hpocket] at hstatus
      exact hbytes 0 (f := .status) hstatus
    case join =>
      have hbody : frameBody 0 (statusBody s c d) (.join n crc) = [BitVec.ofNat 8 n, hi crc, lo crc] := by
        rw [frameBody, hword]
        rfl
      exact hbytes 0 hbody
    case jam => cases reason <;> exact hbytes 0 (f := .jam _) rfl
    case clear => exact hbytes 0 (f := .clear) rfl
    case claim =>
      have hbody : frameBody 0 (statusBody s c d) (.claim id k) = [id0, id1, pocketByte k] := by
        rw [frameBody, hid]
        rfl
      exact hbytes 0 hbody
    case release =>
      have hbody : frameBody 0 (statusBody s c d) (.release id k reason)
          = [id0, id1, pocketByte k, releaseReasonByte reason] := by
        rw [frameBody, hid]
        rfl
      cases reason <;> exact hbytes 0 hbody
    case good =>
      have hbody : frameBody 0 (statusBody s c d) (.read ⟨id, .good code votes runnerUp quality direction, sweeps⟩)
          = [id0, id1, outcomeByte (.good code votes runnerUp quality direction), BitVec.ofNat 8 quality.toNat, sweeps]
              ++ sixBytes code := by
        rw [frameBody, hid, hcode, BitVec.ofNat_toNat]
        rfl
      cases direction <;> exact hbytes 0 hbody
    case failed =>
      have hbody : frameBody 0 (statusBody s c d) (.read ⟨id, .failed reason, sweeps⟩)
          = [id0, id1, outcomeByte (.failed reason), 0, sweeps] := by
        rw [frameBody, hid]
        rfl
      cases reason <;> exact hbytes 0 hbody
    case lost =>
      have hbody : frameBody 0 (statusBody s c d) (.lost id) = [id0, id1] := hid
      exact hbytes 0 hbody
    case runout =>
      refine ⟨?none, fun code => ?some⟩
      case none =>
        have hbody : frameBody 0 (statusBody s c d) (.runout id state none) = [id0, id1, identityStateByte state] := by
          rw [frameBody, hid]
          rfl
        cases state <;> exact hbytes 0 hbody
      case some =>
        have hbody : frameBody 0 (statusBody s c d) (.runout id state (some code))
            = [id0, id1, identityStateByte state] ++ sixBytes code := by
          rw [frameBody, hid, ← hcode]
          rfl
        cases state <;> exact hbytes 0 hbody
  case stuffing =>
    exact fun bits => ⟨stuffCells_no_eight_ones bits, stuffCells_of_seven_ones bits,
      fun n hn => ⟨stuffCells_of_few_ones hn, stuffCells_of_few_ones_zero hn bits⟩⟩
  case levels =>
    intro s
    refine ⟨fun h => ⟨tlCells_of_not_sender h, attemptRow_of_not_sender h⟩, fun h => ?_⟩
    intro cells
    have hrow : ∀ levels, s.attemptRow levels = followAttempt 0 cells levels := attemptRow_of_sender h
    refine ⟨tlCells_of_sender h, ?_, fun ack later => ?_, fun before sent after hcells => ⟨?_, fun later => ?_⟩⟩
    · have hpart := followAttempt_part cells []
      rwa [List.append_nil, ← hrow] at hpart
    · exact (hrow _).trans (followAttempt_ack cells later ack)
    · rw [hrow, hcells]
      exact followAttempt_part before (sent :: after)
    · rw [hrow, hcells]
      exact followAttempt_wrong before after later sent

end Sys2Proof.Machine
end

section
/-! PROOF. The configuration read (R168 to R171, R174): its bits and its CRC, the test of a header byte, and the image taken
or refused with what it leaves. -/

namespace Sys2Proof

/-! ### The CRC of the image and the bits of a row (R168, R170) -/

theorem crc16Bit_eq (reg : Word) (bit : Bool) :
    crc16Bit reg bit = if reg.getLsbD 15 = bit then reg <<< 1 else (reg <<< 1) ^^^ 0x1021#16 := by
  by_cases h : reg.getLsbD 15 = bit
  · rw [if_pos h, crc16Bit, if_neg (fun hne => bne_iff_ne.mp hne h)]
  · rw [if_neg h, crc16Bit, if_pos (bne_iff_ne.mpr h)]

theorem crc16_eq_foldl (data : List Byte) :
    crc16 data =
      (bytesBits data).foldl
        (fun (reg : Word) bit => if reg.getLsbD 15 = bit then reg <<< 1 else (reg <<< 1) ^^^ 0x1021#16) 0xFFFF#16 :=
  congrArg (fun f : Word → Bool → Word => (bytesBits data).foldl f 0xFFFF#16) (funext₂ crc16Bit_eq)

/-- A bit shifted in doubles the byte and adds the bit. -/
theorem shiftIn_ofNat (n : Nat) (b : Bool) :
    (BitVec.ofNat 8 n <<< 1) ||| (BitVec.ofBool b).setWidth 8 = BitVec.ofNat 8 (2 * n + b.toNat) := by
  have hdisjoint : (BitVec.ofNat 8 n <<< 1) &&& (BitVec.ofBool b).setWidth 8 = 0#8 := by
    apply BitVec.eq_of_getLsbD_eq
    intro i hi
    cases b
    · simp
    · simp [BitVec.getLsbD_one]
      omega
  have hbit : (BitVec.ofBool b).setWidth 8 = BitVec.ofNat 8 b.toNat := by cases b <;> rfl
  rw [← BitVec.add_eq_or_of_and_eq_zero _ _ hdisjoint, hbit, BitVec.shiftLeft_eq_mul_twoPow, BitVec.mul_comm,
    BitVec.ofNat_add, BitVec.ofNat_mul]
  rfl

/-- The byte of some bits is their binary number, the first bit weighing most. -/
theorem bitsByte_eq_ofNat (bits : List Bool) :
    bitsByte bits = BitVec.ofNat 8 (bits.foldl (fun n b => 2 * n + b.toNat) 0) := by
  have hfold (bits : List Bool) (n : Nat) :
      bits.foldl (fun (acc : Byte) b => (acc <<< 1) ||| (BitVec.ofBool b).setWidth 8) (BitVec.ofNat 8 n) =
        BitVec.ofNat 8 (bits.foldl (fun n b => 2 * n + b.toNat) n) := by
    induction bits generalizing n with
    | nil => rfl
    | cons b bits ih => rw [List.foldl_cons, List.foldl_cons, shiftIn_ofNat, ih]
  exact hfold bits 0

theorem bitsBytes_bytesBits (bytes : List Byte) : bitsBytes (bytesBits bytes) = bytes := by
  induction bytes with
  | nil => rfl
  | cons b bytes ih => rw [bytesBits, bitsBytes_byteBits_append, ih]

end Sys2Proof

namespace Sys2Proof.Machine

/-! ### The levels of the port and the rows of the read (R168) -/

/-- Of the 24 bits of 03 00 00 hex only bits 6 and 7 are 1. -/
theorem readInstruction_getD {i : Nat} (hi : i < 24) (free : Bool) :
    (bytesBits [0x03, 0x00, 0x00]).getD i free = decide (i = 6 ∨ i = 7) := by
  have hbits : ∀ j : Fin 24, (bytesBits [0x03, 0x00, 0x00])[j] = decide (j.val = 6 ∨ j.val = 7) := by decide
  rw [List.getD_eq_getElem _ _ hi]
  exact hbits ⟨i, hi⟩

theorem State.cmdoHigh_of_read (s : State) (half : Nat) (hr : s.runState = .loading) (hselected : s.loader.selected = true)
    (hsent : s.loader.sent = [0x03, 0x00, 0x00]) (hhalf : half / 2 < 24) :
    s.cmdoHigh half = decide (half / 2 = 6 ∨ half / 2 = 7) := by
  rw [State.cmdoHigh, if_neg (by rw [hr]; nofun), if_pos hselected, hsent, readInstruction_getD hhalf]

theorem State.cmclkHigh_of_selected (s : State) (half : Nat) (hselected : s.loader.selected = true) :
    s.cmclkHigh half = (half % 2 == 1) := by
  rw [State.cmclkHigh, hselected, Bool.true_and]

theorem State.readRow_of_header (s : State) (bits : List Bool) (hselected : s.loader.selected = true)
    (hlen : s.loader.header.length < 4) :
    s.readRow bits = if bits.length = 8 then some (.headerByteCheck (bitsByte bits)) else none := by
  rw [State.readRow, if_pos hselected, if_pos hlen]

theorem State.readRow_of_rest (s : State) (bits : List Bool) (hselected : s.loader.selected = true)
    (hlen : 4 ≤ s.loader.header.length) :
    s.readRow bits =
      if bits.length = 8 * restLength s.loader.header then some (.configReadComplete (bitsBytes bits)) else none := by
  rw [State.readRow, if_pos hselected, if_neg (Nat.not_lt.mpr hlen)]

/-! ### The header (R169) -/

theorem headerByteGood_iff {n : Nat} (hn : n < 4) (b : Byte) :
    headerByteGood n b = true ↔
      (n = 0 ∧ b = 0x4E) ∨ (n = 1 ∧ b = 0x42) ∨ (n = 2 ∧ b = 1) ∨ (n = 3 ∧ b.toNat ≤ 32) := by
  match n with
  | 0 => simp [headerByteGood]
  | 1 => simp [headerByteGood]
  | 2 => simp [headerByteGood]
  | 3 => simp [headerByteGood, BitVec.le_def]

theorem execHeaderByteCheck_of_due (s : State) (b : Byte) (hr : s.runState = .loading)
    (hlen : s.loader.header.length < 4) :
    execHeaderByteCheck b s =
      if headerByteGood s.loader.header.length b then
        .next { s with loader := { s.loader with header := s.loader.header ++ [b] } }
      else .next s.halt := if_pos ⟨hr, hlen⟩

/-! ### The image and its CRC (R168, R170) -/

/-- The image is what stands before the two CRC bytes, and these are the CRC field. -/
theorem image_and_crc_of_append (image : List Byte) (c0 c1 : Byte) :
    let all := image ++ [c0, c1]
    all.take (all.length - 2) = image ∧ imageWord all (all.length - 2) = c0 ++ c1 := by
  intro all
  have hlen : all.length - 2 = image.length := by simp [all]
  rw [hlen]
  refine ⟨List.take_left' rfl, ?_⟩
  simp [imageWord, imageByte, bytesWord, all]

theorem execConfigReadComplete_of_image (s : State) (image rest : List Byte) (c0 c1 : Byte) (hr : s.runState = .loading)
    (hheader : s.loader.header.length = 4) (hrest : rest.length = restLength s.loader.header)
    (hall : s.loader.header ++ rest = image ++ [c0, c1]) :
    execConfigReadComplete rest s =
      if crc16 image = c0 ++ c1 then .next (s.completeLoad image (c0 ++ c1)) else .next s.halt := by
  obtain ⟨himage, hcrc⟩ := image_and_crc_of_append image c0 c1
  rw [execConfigReadComplete, if_pos ⟨hr, hheader, hrest⟩, hall]
  dsimp only
  rw [himage, hcrc]

/-! ### Which delta bits a load sets (R184) -/

theorem Conditions.deltas_setTo (x : Conditions) (c d : Condition) (v : Bool) :
    (x.setTo c v).deltas.getLsbD (conditionRank d - 1) =
      (x.deltas.getLsbD (conditionRank d - 1) || (decide (d = c) && x.isActive c != v)) := by
  by_cases h : x.isActive c = v
  · rw [Conditions.setTo_of_same h, bne_eq_false_iff_eq.mpr h, Bool.and_false, Bool.or_false]
  · rw [Conditions.setTo, if_neg h, bne_iff_ne.mpr h, Bool.and_true, BitVec.getLsbD_or, conditionBit_getLsbD_rank]

/-- From x to y exactly the conditions whose value differs had their delta bit set. -/
def Conditions.DeltasFollow (x y : Conditions) : Prop :=
  ∀ d, y.deltas.getLsbD (conditionRank d - 1) =
    (x.deltas.getLsbD (conditionRank d - 1) || (y.isActive d != x.isActive d))

theorem Conditions.DeltasFollow.refl (x : Conditions) : x.DeltasFollow x := fun d => by simp

/-- A condition that still has its first value may be given another. -/
theorem Conditions.DeltasFollow.setTo {x y : Conditions} (h : x.DeltasFollow y) {c : Condition}
    (hc : y.isActive c = x.isActive c) (v : Bool) : x.DeltasFollow (y.setTo c v) := fun d => by
  rw [Conditions.deltas_setTo, Conditions.isActive_setTo, h d]
  by_cases hd : d = c
  · subst hd
    simp [hc, Bool.xor_comm]
  · simp [hd]

/-- The conditions after a load that gives the four conditions it forms these values (R174, R115). -/
def Conditions.loaded (x : Conditions) (clamped disabled fault full : Bool) : Conditions :=
  (((x.setTo .configClamped clamped).setTo .pocketDisabled disabled).setTo .pocketFault fault).setTo .pocketFull full

theorem Conditions.isActive_loaded (x : Conditions) (clamped disabled fault full : Bool) (c : Condition) :
    (x.loaded clamped disabled fault full).isActive c =
      if c = .configClamped then clamped
      else if c = .pocketDisabled then disabled
      else if c = .pocketFault then fault
      else if c = .pocketFull then full
      else x.isActive c := by
  simp only [Conditions.loaded, Conditions.isActive_setTo]
  cases c <;> rfl

theorem Conditions.loaded_deltasFollow (x : Conditions) (clamped disabled fault full : Bool) :
    x.DeltasFollow (x.loaded clamped disabled fault full) :=
  ((((DeltasFollow.refl x).setTo rfl clamped).setTo (by simp [isActive_setTo]) disabled).setTo
    (by simp [isActive_setTo]) fault).setTo (by simp [isActive_setTo]) full

/-! ### The load taken (R174, R175) -/

theorem pocketCountOf_eq_min (image : List Byte) : pocketCountOf image = min 4 (image.getD 7 0).toNat :=
  (bound_eq_nearest 0 4 _ (Nat.zero_le 4)).trans (Nat.zero_max _)

/-- What a load changes: beside the pockets and the conditions, the run state, the configuration, the read, the front end and
the line, where the JOIN waits. -/
theorem State.completeLoad_fields (s : State) (image : List Byte) (crc : Word) :
    s.completeLoad image crc =
      { s with
        runState := .joining, config := some (loadedConfig image crc),
        loader := { selected := false, sent := s.loader.sent, header := [] },
        frontEnd := FrontEnd.atReset,
        line :=
          { s.line with
            state := .waitFree, ackDriven := false, sending := [],
            queue := [newQueued (.join (min 4 (image.getD 7 0).toNat) crc)] },
        pockets := (s.completeLoad image crc).pockets, conditions := (s.completeLoad image crc).conditions } := by
  rw [← pocketCountOf_eq_min]
  rfl

theorem State.completeLoad_pocket (s : State) (image : List Byte) (crc : Word) (k : Fin 4) :
    (s.completeLoad image crc).pockets.get k =
      (s.pocket k).formed ((loadedConfig image crc).rules.get k) (s.pins.pswap.get k) (s.pins.pfull.get k) :=
  (s.loaded image crc).enterJoining_pocket k

theorem State.completeLoad_conditions (s : State) (image : List Byte) (crc : Word) :
    (s.completeLoad image crc).conditions =
      let pockets := (s.completeLoad image crc).pockets
      s.conditions.loaded (imageClamped image) (imageDisables image) (decide (∃ k, (pockets.get k).state = .fault))
        (decide (∃ k, (pockets.get k).state = .full ∨ (pockets.get k).state = .out)) :=
  pocketConditions_eq (s.completeLoad image crc).pockets _

/-- Settles O52: the header byte by its test, the image by its CRC, and the port's bits by the row they complete. -/
theorem configurationReadTakesOrHalts : Obligations.ConfigurationReadTakesOrHalts := by
  refine ⟨crc16_eq_foldl, fun s b hr hlen => ?header, fun s h0 h1 h2 h3 body c0 c1 hr hheader hbody => ?image,
    fun s hr hselected => ⟨fun hsent i hi => ?cmdo, fun i => ?cmclk, fun hlen => ⟨?byte, fun bits hbits => ?part⟩,
      fun h0 h1 h2 h3 hheader => ?rest⟩⟩
  case header =>
    have hexec : exec (.headerByteCheck b) s = _ := execHeaderByteCheck_of_due s b hr hlen
    intro n good
    have hgood : headerByteGood n b = true ↔ good := headerByteGood_iff hlen b
    rw [hexec]
    exact ⟨fun h => if_pos (hgood.mpr h), fun h => if_neg (mt hgood.mp h)⟩
  case image =>
    intro image rest
    have hrest : rest.length = restLength s.loader.header := by
      simp [rest, hheader, hbody, restLength]
      omega
    have hexec : exec (.configReadComplete rest) s = _ :=
      execConfigReadComplete_of_image s image rest c0 c1 hr (by rw [hheader]; rfl) hrest (by rw [hheader]; rfl)
    rw [hexec]
    refine ⟨fun hbad => if_neg hbad, fun hgood => ?_⟩
    intro cfg
    have hconditions := s.completeLoad_conditions image (c0 ++ c1)
    refine ⟨(s.completeLoad image (c0 ++ c1)).pockets, (s.completeLoad image (c0 ++ c1)).conditions, ?_,
      s.completeLoad_pocket image (c0 ++ c1), fun c => ?_, fun hactive hclear c => ?_⟩
    · rw [if_pos hgood]
      exact congrArg _ (s.completeLoad_fields image (c0 ++ c1))
    · rw [hconditions]
      exact ⟨Conditions.isActive_loaded _ _ _ _ _ c, Conditions.loaded_deltasFollow _ _ _ _ _ c⟩
    · rw [hconditions, Conditions.loaded_deltasFollow _ _ _ _ _ c]
      simp [hclear, Conditions.isActive, hactive]
  case cmdo =>
    have heven : 2 * i / 2 = i := by omega
    have hodd : (2 * i + 1) / 2 = i := by omega
    rw [s.cmdoHigh_of_read (2 * i) hr hselected hsent (by omega),
      s.cmdoHigh_of_read (2 * i + 1) hr hselected hsent (by omega), heven, hodd]
    exact ⟨rfl, rfl⟩
  case cmclk =>
    rw [s.cmclkHigh_of_selected _ hselected, s.cmclkHigh_of_selected _ hselected]
    exact ⟨beq_eq_false_iff_ne.mpr (by omega), beq_iff_eq.mpr (by omega)⟩
  case byte =>
    intro b7 b6 b5 b4 b3 b2 b1 b0 bit
    have hbit (x : Bool) (place : Nat) : bit x place = place * x.toNat := by cases x <;> simp [bit]
    refine (s.readRow_of_header _ hselected hlen).trans ((if_pos rfl).trans ?_)
    rw [bitsByte_eq_ofNat]
    simp only [hbit, List.foldl_cons, List.foldl_nil]
    congr 3
    omega
  case part => rw [s.readRow_of_header _ hselected hlen, if_neg (Nat.ne_of_lt hbits)]
  case rest =>
    have hrow (bits : List Bool) :
        s.readRow bits = if bits.length = 8 * (73 + 5 * h3.toNat) then _ else _ :=
      (s.readRow_of_rest bits hselected (by rw [hheader]; rfl)).trans (by rw [hheader]; rfl)
    refine ⟨fun rest hrest => ?_, fun bits hbits => ?_⟩
    · rw [hrow, if_pos (by rw [bytesBits_length, hrest]), bitsBytes_bytesBits]
    · rw [hrow, if_neg (Nat.ne_of_lt hbits)]

end Sys2Proof.Machine
end

section
/-! PROOF. The conditions with their delta bits and reported marks (R184, R187), bit by bit, and the outputs that follow them
and the run state (R185). -/

namespace Sys2Proof.Machine

/-! ### The maps at the bit of a condition -/

/-- Clearing the bits of a second map, seen at the bit of one condition. -/
theorem and_not_getLsbD_rank (x y : BitVec 16) (d : Condition) :
    (x &&& ~~~y).getLsbD (conditionRank d - 1) =
      (x.getLsbD (conditionRank d - 1) && !y.getLsbD (conditionRank d - 1)) := by
  simp only [BitVec.getLsbD_and, BitVec.getLsbD_not, conditionRank_bit_lt, decide_true, Bool.true_and]

theorem latchedBits_getLsbD_rank (d : Condition) :
    latchedBits.getLsbD (conditionRank d - 1) =
      (d == .dupStation || d == .positionClash || d == .tableFull || d == .divertAnomaly || d == .lineDiscard) := by
  simp only [latchedBits, BitVec.getLsbD_or, conditionBit_getLsbD_rank, Bool.beq_eq_decide_eq]

/-! ### A change of a value, and a cause of a latched condition -/

theorem Conditions.markedDeltas_setTo (x : Conditions) (c d : Condition) (v : Bool) :
    (x.setTo c v).markedDeltas.getLsbD (conditionRank d - 1) =
      (x.markedDeltas.getLsbD (conditionRank d - 1) && !(d == c && x.isActive c != v)) := by
  by_cases h : x.isActive c = v
  · rw [Conditions.setTo_of_same h, bne_eq_false_iff_eq.mpr h, Bool.and_false, Bool.not_false, Bool.and_true]
  · rw [Conditions.setTo, if_neg h, bne_iff_ne.mpr h, Bool.and_true, and_not_getLsbD_rank, conditionBit_getLsbD_rank,
      Bool.beq_eq_decide_eq]

theorem Conditions.markedLatched_setTo (x : Conditions) (c : Condition) (v : Bool) :
    (x.setTo c v).markedLatched = x.markedLatched := by
  by_cases h : x.isActive c = v
  · rw [Conditions.setTo_of_same h]
  · rw [Conditions.setTo, if_neg h]

theorem Conditions.isActive_latch (x : Conditions) (c d : Condition) :
    (x.latch c).isActive d = if d = c then true else x.isActive d := x.isActive_setTo c d true

theorem Conditions.markedLatched_latch (x : Conditions) (c d : Condition) :
    (x.latch c).markedLatched.getLsbD (conditionRank d - 1) =
      (x.markedLatched.getLsbD (conditionRank d - 1) && !(d == c)) := by
  rw [Conditions.latch, and_not_getLsbD_rank, conditionBit_getLsbD_rank, Bool.beq_eq_decide_eq]

theorem Conditions.deltas_latch (x : Conditions) (c d : Condition) :
    (x.latch c).deltas.getLsbD (conditionRank d - 1) =
      (x.deltas.getLsbD (conditionRank d - 1) || (d == c && !x.isActive c)) := by
  rw [← Bool.bne_true, Bool.beq_eq_decide_eq]
  exact x.deltas_setTo c d true

theorem Conditions.markedDeltas_latch (x : Conditions) (c d : Condition) :
    (x.latch c).markedDeltas.getLsbD (conditionRank d - 1) =
      (x.markedDeltas.getLsbD (conditionRank d - 1) && !(d == c && !x.isActive c)) := by
  rw [← Bool.bne_true (x.isActive c)]
  exact x.markedDeltas_setTo c d true

/-! ### The marks of a STATUS attempt and its acknowledge -/

theorem Conditions.markedLatched_markReported (x : Conditions) (d : Condition) :
    x.markReported.markedLatched.getLsbD (conditionRank d - 1) =
      (x.isActive d
        && (d == .dupStation || d == .positionClash || d == .tableFull || d == .divertAnomaly || d == .lineDiscard)) := by
  rw [Conditions.markReported, BitVec.getLsbD_and, latchedBits_getLsbD_rank, Conditions.isActive]

theorem Conditions.isActive_clearReported (x : Conditions) (d : Condition) :
    x.clearReported.isActive d = (x.isActive d && !x.markedLatched.getLsbD (conditionRank d - 1)) :=
  and_not_getLsbD_rank x.active x.markedLatched d

theorem Conditions.deltas_clearReported (x : Conditions) (d : Condition) :
    x.clearReported.deltas.getLsbD (conditionRank d - 1) =
      (x.deltas.getLsbD (conditionRank d - 1) && !x.markedDeltas.getLsbD (conditionRank d - 1)) :=
  and_not_getLsbD_rank x.deltas x.markedDeltas d

/-! ### ALERT and JAMOUT (R185) -/

theorem and_ne_zero_iff_exists_bit {w : Nat} (x y : BitVec w) :
    x &&& y ≠ 0 ↔ ∃ i < w, x.getLsbD i = true ∧ y.getLsbD i = true := by
  rw [ne_eq, ← not_iff_not, not_not]
  constructor
  · rintro hzero ⟨i, -, hx, hy⟩
    have hbit := congrArg (BitVec.getLsbD · i) hzero
    simp [hx, hy] at hbit
  · intro hnone
    refine BitVec.eq_of_getLsbD_eq fun i hi => ?_
    rw [BitVec.ofNat_eq_ofNat, BitVec.getLsbD_zero, BitVec.getLsbD_and, Bool.and_eq_false_iff]
    by_contra hboth
    exact hnone ⟨i, hi, by simpa using hboth⟩

/-- Where the mask counts: in every run state but RESET and HALTED. -/
theorem State.alertOut_of_masked (s : State) (hreset : s.runState ≠ .reset) (hhalted : s.runState ≠ .halted) :
    s.alertOut = (s.conditions.active &&& s.cfg.alertMask != 0) := by
  unfold State.alertOut
  cases hr : s.runState with
  | reset => exact absurd hr hreset
  | halted => exact absurd hr hhalted
  | loading | joining | running | jammed => rfl

theorem State.alertOut_of_reset {s : State} (h : s.runState = .reset) : s.alertOut = false := by
  rw [State.alertOut, h]

theorem State.alertOut_of_halted {s : State} (h : s.runState = .halted) : s.alertOut = true := by
  rw [State.alertOut, h]

theorem State.jamOut_iff (s : State) : s.jamOut = true ↔ s.runState = .jammed := beq_iff_eq

/-- Settles O33: each map read at the bit of a condition, and ALERT by the run state. -/
theorem conditionsSetDeltasAndMarks : Obligations.ConditionsSetDeltasAndMarks := by
  unfold Obligations.ConditionsSetDeltasAndMarks
  refine ⟨rfl, fun _ _ => rfl, fun _ _ => rfl, fun x c d v => ?maps, fun s => ?outputs⟩
  case maps =>
    have hdeltas := x.deltas_setTo c d v
    rw [← Bool.beq_eq_decide_eq] at hdeltas
    exact ⟨x.isActive_setTo c d v, hdeltas, x.markedDeltas_setTo c d v, x.markedLatched_setTo c v, x.isActive_latch c d,
      x.markedLatched_latch c d, x.deltas_latch c d, x.markedDeltas_latch c d, rfl, rfl, rfl,
      x.markedLatched_markReported d, x.isActive_clearReported d, x.deltas_clearReported d, rfl, rfl⟩
  case outputs =>
    refine ⟨State.alertOut_of_reset, State.alertOut_of_halted, fun hreset hhalted => ?_, s.jamOut_iff⟩
    rw [s.alertOut_of_masked hreset hhalted, bne_iff_ne]
    exact and_ne_zero_iff_exists_bit s.conditions.active s.cfg.alertMask

end Sys2Proof.Machine
end

section
/-! PROOF. STOP and RESUME (R180, R181): the edges that only set or clear the released flag, and the end of a jam. -/

namespace Sys2Proof.Machine

/-- A fall that finds the flag clear, or finds the station in RESET, is not recognised (R180). -/
theorem execStopPress_of_unrecognised (s : State) (hhigh : s.pins.stopHigh = true)
    (h : s.runState = .reset ∨ s.stopReleased = false) :
    execStopPress s = .next { s with pins := { s.pins with stopHigh := false } } :=
  (if_pos hhigh).trans (if_neg fun ⟨hr, hreleased⟩ => h.elim hr (Bool.eq_false_iff.mp · hreleased))

theorem execStopPress_outside_running (s : State) (hhigh : s.pins.stopHigh = true) (hrun : s.runState ≠ .running) :
    execStopPress s =
      .next
        { s with
          pins := { s.pins with stopHigh := false },
          stopReleased := if s.runState = .reset then s.stopReleased else false } := by
  by_cases hreset : s.runState = .reset
  · rw [execStopPress_of_unrecognised s hhigh (.inl hreset), if_pos hreset]
  · rw [if_neg hreset]
    cases hreleased : s.stopReleased with
    | true => exact (if_pos hhigh).trans ((if_pos ⟨hreset, hreleased⟩).trans (if_neg hrun))
    | false => rw [execStopPress_of_unrecognised s hhigh (.inr hreleased), ← hreleased]

theorem execStopRelease_of_low (s : State) (hlow : s.pins.stopHigh = false) :
    execStopRelease s =
      .next
        { s with
          pins := { s.pins with stopHigh := true },
          stopReleased := if s.runState = .reset then s.stopReleased else true } := by
  have hedge : ¬ s.pins.stopHigh = true := Bool.eq_false_iff.mp hlow
  by_cases hreset : s.runState = .reset
  · rw [if_pos hreset]
    exact (if_neg hedge).trans (if_pos hreset)
  · rw [if_neg hreset]
    exact (if_neg hedge).trans (if_neg hreset)

theorem execResumePress_of_cleared (s : State) (hjam : s.runState = .jammed) (hclear : s.pins.pcellBlocked = false)
    (hstop : s.pins.stopHigh = true) : execResumePress s = .next (s.enqueue .clear).leaveJammed :=
  if_pos ⟨hjam, hclear, hstop⟩

theorem execResumePress_of_obstructed (s : State) (h : s.pins.pcellBlocked = true ∨ s.pins.stopHigh = false) :
    execResumePress s = .next s :=
  if_neg fun ⟨_, hclear, hstop⟩ => h.elim (Bool.eq_false_iff.mp hclear) (Bool.eq_false_iff.mp · hstop)

/-- Settles O48: each clause is the lemma of its edge. -/
theorem stopAndResumePresses : Obligations.StopAndResumePresses := by
  unfold Obligations.StopAndResumePresses
  intro s
  exact ⟨execStopPress_outside_running s,
    fun hhigh hreleased => execStopPress_of_unrecognised s hhigh (.inr hreleased),
    execStopRelease_of_low s, execResumePress_of_cleared s, fun _ => execResumePress_of_obstructed s⟩

end Sys2Proof.Machine
end

section
/-! PROOF. No command stops the part, and none touches the commands that wait (logs 1, 24): State.Completes goes through the
branches of each row, and the lemmas here add to Laws/Frames.lean what a received frame's owning block does to the waiting
commands. -/

namespace Sys2Proof.Machine

/-! ### The commands that wait, under what the rows share -/

theorem State.swapCancels_pending (s : State) (k : Fin 4) (ops : List GateOp) :
    (ops.foldl (fun u o => u.swapCancel k o) s).pending = s.pending := by
  induction ops generalizing s with
  | nil => rfl
  | cons o rest ih => exact (ih _).trans (s.swapCancel_pending k o)

/-- The acknowledge and the tests of R161 touch no command that waits, so it rests on the owning block alone. -/
theorem State.receive_pending (s : State) (h : Header) (owner : State → State)
    (howner : ∀ t : State, (owner t).pending = t.pending) : (s.receive h owner).pending = s.pending := by
  have htested : (s.acknowledge.testSender h).pending = s.pending := by simp
  unfold State.receive
  split
  · dsimp only
    split
    · exact htested
    · exact (howner _).trans htested
  · rfl

theorem State.receiveOrHandOn_pending (s : State) (h : Header) (owner : State → State)
    (howner : ∀ t : State, (owner t).pending = t.pending) : (s.receiveOrHandOn h owner).pending = s.pending := by
  unfold State.receiveOrHandOn
  split
  · split
    · rfl
    · exact howner s
  · exact s.receive_pending h owner howner

/-! ### The commands that wait, under the blocks that own a received frame -/

theorem State.takeJam_pending (s : State) : s.takeJam.pending = s.pending := by
  unfold State.takeJam
  split
  · exact s.enterJammed_pending none
  · rfl

theorem State.takeClear_pending (s : State) : s.takeClear.pending = s.pending := by
  unfold State.takeClear
  split
  · split
    · rfl
    · split <;> rfl
  · rfl

theorem State.claimAgainstOwn_pending (s : State) (id : LetterId) (station : Station) (pocket : Byte) :
    (s.claimAgainstOwn id station pocket).pending = s.pending := by
  unfold State.claimAgainstOwn
  split
  · rfl
  · split <;> rfl

theorem State.takeClaim_pending (s : State) (h : Header) (id : LetterId) (pocket : Byte) :
    (s.takeClaim h id pocket).pending = s.pending := by
  unfold State.takeClaim
  split
  · split
    · rfl
    · split
      · rfl
      · exact s.claimAgainstOwn_pending id h.station pocket
      · rfl
      · rfl
  · rfl

theorem State.takeRelease_pending (s : State) (h : Header) (id : LetterId) (pocket : Byte) :
    (s.takeRelease h id pocket).pending = s.pending := by
  unfold State.takeRelease
  split
  · split
    · rfl
    · split <;> rfl
  · rfl

theorem State.takeDiverted_pending (s : State) (h : Header) (id : LetterId) :
    (s.takeDiverted h id).pending = s.pending := by
  unfold State.takeDiverted
  split
  · split
    · rfl
    · split
      · rfl
      · split <;> rfl
  · rfl

theorem State.takeSight_pending (s : State) (h : Header) (id : LetterId) (age length : Word) :
    (s.takeSight h id age length).pending = s.pending := by
  unfold State.takeSight
  split
  · dsimp only
    split
    · rfl
    · split
      · rfl
      · split <;> rfl
  · rfl

theorem State.takeRead_pending (s : State) (h : Header) (id : LetterId) (outcome quality : Byte) (code : Option Code) :
    (s.takeRead h id outcome quality code).pending = s.pending := by
  unfold State.takeRead
  split
  · split
    · exact s.applyRead_pending id _
    · rfl
  · rfl

theorem State.takeLost_pending (s : State) (h : Header) (id : LetterId) : (s.takeLost h id).pending = s.pending := by
  unfold State.takeLost
  split
  · split
    · rfl
    · split <;> rfl
  · rfl

theorem State.takePoll_pending (s : State) (target : Byte) : (s.takePoll target).pending = s.pending := by
  unfold State.takePoll
  split <;> rfl

/-! ### Completing, branch by branch -/

/-- The command is done, and the commands that waited beside s wait still. -/
def State.Completes (s : State) (o : Host.Outcome State Fault Refusal) : Prop := ∃ t, o = .next t ∧ t.pending = s.pending

theorem State.Completes.next {s t : State} (h : t.pending = s.pending) : s.Completes (.next t) := ⟨t, rfl, h⟩

theorem State.Completes.same (s : State) : s.Completes (.next s) := .next rfl

theorem State.Completes.ite {s : State} {c : Prop} [Decidable c] {a b : Host.Outcome State Fault Refusal}
    (ha : s.Completes a) (hb : s.Completes b) : s.Completes (if c then a else b) := by
  split
  · exact ha
  · exact hb

/-- A command that acts where its event can happen, and otherwise leaves the state as it is (log 4). -/
theorem State.Completes.guarded {s t : State} {c : Prop} [Decidable c] (h : t.pending = s.pending) :
    s.Completes (if c then .next t else .next s) :=
  .ite (.next h) (.same s)

/-! ### The count, the video and the photocell -/

theorem execExpiryPoint_completes (s : State) : s.Completes (execExpiryPoint s) := by
  unfold execExpiryPoint
  split
  · exact .guarded (s.expire_pending _)
  · exact .same s

theorem execRetirementPoint_completes (s : State) : s.Completes (execRetirementPoint s) := by
  unfold execRetirementPoint
  split
  · exact .guarded (s.retire_pending _)
  · exact .same s

theorem execScanClosePoint_completes (s : State) : s.Completes (execScanClosePoint s) := by
  unfold execScanClosePoint
  split
  · exact .guarded s.closeWindow_pending
  · exact .same s

theorem execDecisionPoint_completes (s : State) : s.Completes (execDecisionPoint s) := by
  unfold execDecisionPoint
  split
  · exact .guarded (s.decideEntry_pending _)
  · exact .same s

theorem execRunEndByQuiet_completes (high : Bool) (s : State) : s.Completes (execRunEndByQuiet high s) := by
  unfold execRunEndByQuiet
  split
  · split
    · exact .next rfl
    · exact .same s
  · exact .same s

theorem execPcellLeadingEdge_completes (s : State) : s.Completes (execPcellLeadingEdge s) :=
  .ite (.same s) (.ite (.next (State.leadingEdge_pending _)) (.next rfl))

theorem execPcellTrailingEdge_completes (s : State) : s.Completes (execPcellTrailingEdge s) :=
  .ite (.ite (.next (State.trailingEdge_pending _)) (.next rfl)) (.same s)

/-! ### The gates and the inputs of a pocket -/

theorem execPullInExpiry_completes (k : Fin 4) (s : State) : s.Completes (execPullInExpiry k s) := by
  unfold execPullInExpiry
  dsimp only
  split
  · exact .guarded rfl
  · exact .same s

theorem execChopPartExpiry_completes (k : Fin 4) (s : State) : s.Completes (execChopPartExpiry k s) := by
  unfold execChopPartExpiry
  dsimp only
  split
  · exact .guarded rfl
  · exact .same s

theorem execReleasePoint_completes (k : Fin 4) (s : State) : s.Completes (execReleasePoint k s) := by
  unfold execReleasePoint
  dsimp only
  split
  · exact .same s
  · exact .ite (.next (State.miss_pending _ k _)) (.next rfl)

theorem execConfirmClose_completes (k : Fin 4) (s : State) : s.Completes (execConfirmClose k s) := by
  unfold execConfirmClose
  split
  · exact .next (s.miss_pending k _)
  · exact .same s

theorem execPentryEdge_completes (k : Fin 4) (s : State) : s.Completes (execPentryEdge k s) := by
  unfold execPentryEdge
  dsimp only
  split
  · split
    · exact .next (State.confirm_pending _ k _)
    · exact .next rfl
  · exact .same s

theorem execPfullChange_completes (k : Fin 4) (active : Bool) (s : State) : s.Completes (execPfullChange k active s) :=
  .ite (.same s) (.ite (.next rfl) (.next rfl))

theorem execPswapActive_completes (k : Fin 4) (s : State) : s.Completes (execPswapActive k s) :=
  .ite (.same s) (.ite (.next (State.swapCancels_pending _ k _)) (.next rfl))

theorem execPswapInactive_completes (k : Fin 4) (s : State) : s.Completes (execPswapInactive k s) :=
  .ite (.ite (.next rfl) (.next rfl)) (.same s)

/-! ### The line's events -/

theorem execAttemptEnd_completes (acked : Bool) (s : State) : s.Completes (execAttemptEnd acked s) :=
  .ite (.ite (.next (State.ackAttempt_pending _)) (.next (State.failAttempt_pending _))) (.same s)

theorem execSightStalePoint_completes (s : State) : s.Completes (execSightStalePoint s) := by
  unfold execSightStalePoint
  split
  · exact .same s
  · exact .ite (.next rfl) (.next rfl)

theorem execBrokenFrame_completes (cells : List Bool) (s : State) : s.Completes (execBrokenFrame cells s) := by
  unfold execBrokenFrame
  split
  · exact .guarded rfl
  · exact .same s

/-! ### STOP, resets and the configuration read -/

theorem execStopPress_completes (s : State) : s.Completes (execStopPress s) :=
  .ite (.ite (.ite (.next (State.enterJammed_pending _ _)) (.next rfl)) (.next rfl)) (.same s)

theorem execResetEntry_completes (signal : ResetSignal) (s : State) : s.Completes (execResetEntry signal s) := by
  cases signal with
  | powerOk => exact .guarded rfl
  | reset => exact .guarded rfl

theorem execResetRelease_completes (straps : Straps) (retain : Bool) (s : State) :
    s.Completes (execResetRelease straps retain s) := by
  unfold execResetRelease
  split
  · split
    · exact .next rfl
    · exact .next rfl
    · exact .next s.retainInit.enterJoining_pending
  · exact .same s

theorem execConfigReadComplete_completes (rest : List Byte) (s : State) :
    s.Completes (execConfigReadComplete rest s) :=
  .ite (.ite (.next (State.enterJoining_pending _)) (.next s.halt_pending)) (.same s)

/-! ### Every command -/

/-- Each command completes: by its own branches where they are plain or by the lemma of its row, and for a received frame by
what its owning block does. -/
theorem exec_completes (c : Instr) (s : State) : s.Completes (exec c s) := by
  have hreceived (h : Header) (owner : State → State) (howner : ∀ t : State, (owner t).pending = t.pending) :
      s.Completes (.next (s.receiveOrHandOn h owner)) := .next (s.receiveOrHandOn_pending h owner howner)
  cases c
  case tachEdge => exact .ite (.same s) (.next rfl)
  case tachStall => exact .guarded rfl
  case noiseFilterAccept high => exact .guarded rfl
  case quietSeen high => exact .guarded rfl
  case runEndByQuiet high => exact execRunEndByQuiet_completes high s
  case sweepEdge => exact .ite (.same s) (.next rfl)
  case pcellLeadingEdge => exact execPcellLeadingEdge_completes s
  case pcellTrailingEdge => exact execPcellTrailingEdge_completes s
  case jamPoint => exact .guarded (s.enterJammed_pending _)
  case expiryPoint => exact execExpiryPoint_completes s
  case retirementPoint => exact execRetirementPoint_completes s
  case scanClosePoint => exact execScanClosePoint_completes s
  case decisionPoint => exact execDecisionPoint_completes s
  case firePoint k => exact .guarded rfl
  case pullInExpiry k => exact execPullInExpiry_completes k s
  case chopPartExpiry k => exact execChopPartExpiry_completes k s
  case releasePoint k => exact execReleasePoint_completes k s
  case confirmClose k => exact execConfirmClose_completes k s
  case pentryEdge k => exact execPentryEdge_completes k s
  case pfullChange k active => exact execPfullChange_completes k active s
  case pswapActive k => exact execPswapActive_completes k s
  case pswapInactive k => exact execPswapInactive_completes k s
  case busFree => exact .guarded rfl
  case startOfFrame highCells => exact .guarded rfl
  case arbitrationLost => exact .guarded (State.loseArbitration_pending _)
  case bitError => exact .guarded (State.failAttempt_pending _)
  case attemptEnd acked => exact execAttemptEnd_completes acked s
  case sightStalePoint => exact execSightStalePoint_completes s
  case brokenFrame cells => exact execBrokenFrame_completes cells s
  case jamReceived h reason => exact hreceived h _ State.takeJam_pending
  case clearReceived h => exact hreceived h _ State.takeClear_pending
  case claimReceived h id pocket => exact hreceived h _ fun t => t.takeClaim_pending h id pocket
  case releaseReceived h id pocket reason => exact hreceived h _ fun t => t.takeRelease_pending h id pocket
  case divertedReceived h id pocket tally => exact hreceived h _ fun t => t.takeDiverted_pending h id
  case sightReceived h id age length =>
    exact .next (s.receive_pending h _ fun t => t.takeSight_pending h id age length)
  case readReceived h id outcome quality sweeps code =>
    exact hreceived h _ fun t => t.takeRead_pending h id outcome quality code
  case lostReceived h id => exact hreceived h _ fun t => t.takeLost_pending h id
  case pollReceived h target => exact hreceived h _ fun t => t.takePoll_pending target
  case joinReceived h pockets crc => exact .next (s.receive_pending h _ fun _ => rfl)
  case ignoredFrameReceived h kind body => exact .guarded (s.receive_pending h _ fun _ => rfl)
  case stopPress => exact execStopPress_completes s
  case stopRelease => exact .ite (.same s) (.ite (.next rfl) (.next rfl))
  case resumePress => exact .guarded rfl
  case resetEntry signal => exact execResetEntry_completes signal s
  case powerOkRiseInReset straps => exact .guarded rfl
  case resetRelease straps retain => exact execResetRelease_completes straps retain s
  case headerByteCheck byte => exact .ite (.ite (.next rfl) (.next s.halt_pending)) (.same s)
  case configReadComplete rest => exact execConfigReadComplete_completes rest s
  case videoSample high => exact .guarded rfl

/-- Settles O2: each row completes in every state. -/
theorem everyCommandCompletes : Obligations.EveryCommandCompletes := by
  unfold Obligations.EveryCommandCompletes
  exact exec_completes

end Sys2Proof.Machine
end
